-- ==== Sys2Proof/Word.lean ====
section
/-! DEFINITION. The words of DSM402: bytes, 16-, 32- and 64-bit words and the 2-bit state codes
(spec/00_scope.md section 5, spec/10_state.md). -/

namespace Sys2Proof

/-- One byte of a process-data record (20_memory.md R40). -/
abbrev Byte := BitVec 8

/-- A 16-bit word: status word, control word (30_encoding.md R61, R65). -/
abbrev Half := BitVec 16

/-- A 32-bit word: a host register, a position or velocity in counts (10_state.md R11, R27). -/
abbrev Word := BitVec 32

/-- A 64-bit word: `pos_ref`, `vel_ref`, `next_wake`, `now` (10_state.md R11, R18; 42 R140). -/
abbrev Dword := BitVec 64

/-- A 2-bit state code (30_encoding.md R67, R68). -/
abbrev Code2 := BitVec 2

end Sys2Proof
end

