-- ==== Sys2Proof/Names.lean ====
section
/-! DEFINITION. The finite sets of names the spec uses: states, formats, host registers, record
fields, events. Their numeric codes are in Decode.lean, their byte offsets in Machine/Operands.lean. -/

namespace Sys2Proof

/-- The four decoded formats (30_encoding.md R60). -/
inductive Format where
  /-- the drive's 16-bit status word -/
  | sw
  /-- `motion_state`, 2 bits -/
  | ms
  /-- `bus_state`, 2 bits -/
  | bs
  /-- the 32-bit value written to `CTRL` -/
  | hc
deriving DecidableEq, Repr

/-- DriveState, never stored (10_state.md R10, R17; 30_encoding.md R66). -/
inductive DriveState where
  | notReady | switchOnDisabled | readyToSwitchOn | switchedOn | operationEnabled | fault
deriving DecidableEq, Repr

/-- MotionState (10_state.md R13). -/
inductive MotionState where
  | idle | accelerating | cruising | decelerating
deriving DecidableEq, Repr

/-- State of the bus monitor (10_state.md R14). -/
inductive BusState where
  | waitingForClockSync | requestingOperational | operational | error
deriving DecidableEq, Repr

/-- RunState, three-valued (10_state.md R15; 30_encoding.md R69: code 3 is unreachable and "a model
should make the type three-valued"). DEDUCED, safe: log 17. -/
inductive RunState where
  | halted | running | stopped
deriving DecidableEq, Repr

/-- Kind of the pending command (10_state.md R20): 0 absolute, 1 relative, 2 velocity. Code 3 is
given no meaning and no rule writes it. DEDUCED, safe: log 17. -/
inductive PendKind where
  | absolute | relative | velocity
deriving DecidableEq, Repr

/-- Result codes of the doorbell (30_encoding.md R71). -/
inductive ResultCode where
  | ok | eInvalidCommand | eBadOpcode | eWrongState | eWrongMode
deriving DecidableEq, Repr

/-- The host registers, numbers 0 to 18 (10_state.md R24 to R27). -/
inductive HostReg where
  | ctrl | result | mode | expectedWkc | cmdTarget | cmdVmax | cmdAccel | errcode
  | snapBusOp | snapDriveOp | snapFault | snapSw | snapCw | snapApos | snapAvel | snapMstate
  | shutdown | runState | wkcErrCount
deriving DecidableEq, Repr

/-- The eight registers the publish phase stores (44_host_channel.md R176). -/
inductive SnapReg where
  | busOp | driveOp | fault | sw | cw | apos | avel | mstate
deriving DecidableEq, Repr

/-- Fields of the output record (20_memory.md R41). -/
inductive OutField where
  | controlWord | targetPosition | targetVelocity | targetTorque | modeOfOperation | velocityOffset
deriving DecidableEq, Repr

/-- Fields of the input record (20_memory.md R42). -/
inductive InField where
  | statusWord | actualPosition | actualVelocity | actualTorque | followingError | modeDisplay
  | touchProbeStatus | touchProbePosition
deriving DecidableEq, Repr

/-- The bus states the core may request (43_bus_state_monitor.md R160). -/
inductive BusTarget where
  | op | init
deriving DecidableEq, Repr

/-- The four events with the information they record (60_exceptions.md R190). -/
inductive Event where
  /-- R191: the status word -/
  | driveFault (sw : Half)
  /-- R192: the observed working counter -/
  | softCommFault (wkc : Word)
  /-- R193 -/
  | busError
  /-- R195 -/
  | invalidCommand
deriving DecidableEq, Repr

end Sys2Proof
end

