-- ==== Sys2Proof/Config.lean ====
section
/-! DEFINITION. What an implementation fixes (the parameters of 00_scope.md R5) and the model's one
free value. -/

namespace Sys2Proof

/-- The parameters of 00_scope.md R5. `PERIOD_NS`, `S1` and `S2` follow from `tickHz` and are
computed in Machine/Operands.lean. The legal ranges are `Params.legal` of WellFormed.lean. -/
structure Params where
  /-- `TICK_HZ`, ticks per second -/
  tickHz : Nat
  /-- `POS_TOL`, arrival tolerance band in counts -/
  posTol : Nat
  /-- `ACK_MASK`, the acknowledgment bit of the control word -/
  ackMask : Half
  /-- `MODE_POS`, the code of cyclic synchronous position -/
  modePos : Byte
  /-- `MODE_VEL`, the code of cyclic synchronous velocity -/
  modeVel : Byte
  /-- `STARTUP_TIMEOUT_MS`, the host's budget: "no rule of the core reads it" -/
  startupTimeoutMs : Nat
deriving DecidableEq, Repr

/-- The values 00_scope.md R5 gives "for this hardware". That State.reset carries them is a
DESIGN CHOICE, unsafe for claims about State.reset alone: log 8. -/
def Params.reference : Params :=
  { tickHz := 500, posTol := 100, ackMask := 0x0010, modePos := 8, modeVel := 9,
    startupTimeoutMs := 5000 }

/-- FREE VALUE. What `next_wake` holds when a sum leaves its 64 bits: 42_cyclic_scheduler.md R140
and R145 take "no wrap" as a premise and state no result there. DESIGN CHOICE, safe: log 5. -/
opaque Config.freeWake : Nat → Dword

end Sys2Proof
end

