-- ==== Sys2Proof/Syntax.lean ====
section
/-! DEFINITION. The 23 operations of spec/opcode_table.json (30_encoding.md R75), one constructor a
row. No operation has an operand field: every operand is a register or a record field. -/

namespace Sys2Proof

/-- The operations of DSM402 (30_encoding.md R75). -/
inductive Instr where
  /-- DS.FAULT, 40 R82 -/
  | dsFault
  /-- DS.SOD, 40 R83 -/
  | dsSod
  /-- DS.RTSO, 40 R84 -/
  | dsRtso
  /-- DS.SON, 40 R85 -/
  | dsSon
  /-- DS.OPEN, 40 R86 -/
  | dsOpen
  /-- DS.NRDY, 40 R87 -/
  | dsNrdy
  /-- MP.IDLE, 41 R109 -/
  | mpIdle
  /-- MP.ACC, 41 R106 -/
  | mpAcc
  /-- MP.CRU, 41 R107 -/
  | mpCru
  /-- MP.DEC, 41 R108 -/
  | mpDec
  /-- MP.ORIGIN, 40 R89 -/
  | mpOrigin
  /-- MP.ABORT, 41 R112 -/
  | mpAbort
  /-- MP.ADOPT, 41 R103 -/
  | mpAdopt
  /-- MP.VEL, 41 R113 -/
  | mpVel
  /-- BS.WAIT, 43 R162 -/
  | bsWait
  /-- BS.REQ, 43 R163 -/
  | bsReq
  /-- BS.OP, 43 R164 -/
  | bsOp
  /-- BS.ERR, 43 R165 -/
  | bsErr
  /-- HC.START, 44 R171 -/
  | hcStart
  /-- HC.STOP, 44 R172 -/
  | hcStop
  /-- HC.MOVE_ABS, 44 R173 -/
  | hcMoveAbs
  /-- HC.MOVE_REL, 44 R174 -/
  | hcMoveRel
  /-- HC.SET_VEL, 44 R175 -/
  | hcSetVel
deriving DecidableEq, Repr

end Sys2Proof
end

