-- ==== Sys2Proof/WellFormed.lean ====
section
/-! DEFINITION. What is well formed: the parameters (00_scope.md R5, R6), and which operations are
selected by a word (30_encoding.md R60). An operation has no operand, so it carries no further check. -/

namespace Sys2Proof

/-- `TICK_HZ` is 1 to 10000 and divides 10^9 (00_scope.md R5, R6). -/
def Params.tickHzLegal (p : Params) : Bool :=
  decide (1 ≤ p.tickHz) && decide (p.tickHz ≤ 10000) && decide (1000000000 % p.tickHz = 0)

/-- `POS_TOL` is 0 to 2^31 - 1 (00_scope.md R5). -/
def Params.posTolLegal (p : Params) : Bool := decide (p.posTol < 2 ^ 31)

/-- `ACK_MASK` has "exactly one bit set, not one of bits 0,1,2,3,7" (00_scope.md R5). -/
def Params.ackMaskLegal (p : Params) : Bool :=
  [4, 5, 6, 8, 9, 10, 11, 12, 13, 14, 15].any fun k => p.ackMask == BitVec.ofNat 16 (2 ^ k)

/-- `MODE_POS` is "not equal to `MODE_VEL`" (00_scope.md R5). -/
def Params.modesLegal (p : Params) : Bool := p.modePos != p.modeVel

/-- The parameters are in the ranges of 00_scope.md R5. -/
def Params.legal (p : Params) : Bool :=
  p.tickHzLegal && p.posTolLegal && p.ackMaskLegal && p.modesLegal

/-- The operation is selected by a word: 30_encoding.md R60 gives four operations, the triggered
ones, no selector word. -/
def Instr.hasSelector : Instr → Bool
  | .mpOrigin | .mpAbort | .mpAdopt | .mpVel => false
  | .dsFault | .dsSod | .dsRtso | .dsSon | .dsOpen | .dsNrdy => true
  | .mpIdle | .mpAcc | .mpCru | .mpDec => true
  | .bsWait | .bsReq | .bsOp | .bsErr => true
  | .hcStart | .hcStop | .hcMoveAbs | .hcMoveRel | .hcSetVel => true

end Sys2Proof
end

