-- ==== Sys2Proof/Decode.lean ====
section
/-! DEFINITION. The decoders of the four formats (30_encoding.md R60 to R72), the numeric codes of
the spec's names, the encoder, and the reading of a row's bits as opcode_table.json numbers them. -/

namespace Sys2Proof

/-! ### Enumeration codes (30_encoding.md R66 to R71, 10_state.md R20) -/

/-- 30_encoding.md R66. -/
def DriveState.code : DriveState → Nat
  | .notReady => 0
  | .switchOnDisabled => 1
  | .readyToSwitchOn => 2
  | .switchedOn => 3
  | .operationEnabled => 4
  | .fault => 5

/-- 30_encoding.md R67. -/
def MotionState.code : MotionState → Code2
  | .idle => 0
  | .accelerating => 1
  | .cruising => 2
  | .decelerating => 3

/-- The state of a 2-bit code (30_encoding.md R67: "All four codes are used"). -/
def MotionState.ofCode (c : Code2) : MotionState :=
  if c = 0 then .idle else if c = 1 then .accelerating else if c = 2 then .cruising else .decelerating

/-- 30_encoding.md R68. -/
def BusState.code : BusState → Code2
  | .waitingForClockSync => 0
  | .requestingOperational => 1
  | .operational => 2
  | .error => 3

/-- The state of a 2-bit code (30_encoding.md R68: "All four codes are used"). -/
def BusState.ofCode (c : Code2) : BusState :=
  if c = 0 then .waitingForClockSync else if c = 1 then .requestingOperational
  else if c = 2 then .operational else .error

/-- 30_encoding.md R69. -/
def RunState.code : RunState → Code2
  | .halted => 0
  | .running => 1
  | .stopped => 2

/-- 10_state.md R20. -/
def PendKind.code : PendKind → Code2
  | .absolute => 0
  | .relative => 1
  | .velocity => 2

/-- 30_encoding.md R71. -/
def ResultCode.code : ResultCode → Word
  | .ok => 0
  | .eInvalidCommand => 1
  | .eBadOpcode => 2
  | .eWrongState => 3
  | .eWrongMode => 4

/-- 60_exceptions.md R190: "The codes ... identify the event in a model's trace". -/
def Event.code : Event → Nat
  | .driveFault _ => 1
  | .softCommFault _ => 2
  | .busError => 3
  | .invalidCommand => 4

/-- The host register of a number (10_state.md R24 to R26); none above 18 (R27). -/
def HostReg.ofNumber (n : Nat) : Option HostReg :=
  [HostReg.ctrl, .result, .mode, .expectedWkc, .cmdTarget, .cmdVmax, .cmdAccel, .errcode, .snapBusOp,
    .snapDriveOp, .snapFault, .snapSw, .snapCw, .snapApos, .snapAvel, .snapMstate, .shutdown,
    .runState, .wkcErrCount][n]?

/-! ### Format SW (30_encoding.md R61 to R65, 40_drive_state_machine.md R81) -/

/-- `decode(sw)` of 40_drive_state_machine.md R81. -/
def decodeStatus (sw : Half) : DriveState :=
  if sw &&& 0x0008 = 0x0008 then .fault
  else if sw &&& 0x004F = 0x0040 then .switchOnDisabled
  else if sw &&& 0x006F = 0x0021 then .readyToSwitchOn
  else if sw &&& 0x006F = 0x0023 then .switchedOn
  else if sw &&& 0x006F = 0x0027 then .operationEnabled
  else .notReady

/-- The operation of a DriveState (30_encoding.md R62, columns "mnemonic" and "DriveState"). -/
def DriveState.instr : DriveState → Instr
  | .fault => .dsFault
  | .switchOnDisabled => .dsSod
  | .readyToSwitchOn => .dsRtso
  | .switchedOn => .dsSon
  | .operationEnabled => .dsOpen
  | .notReady => .dsNrdy

/-- Format SW. Total: "there is no illegal status word" (30_encoding.md R62). -/
def decodeSw (sw : Half) : Instr := (decodeStatus sw).instr

/-- The control word the table issues for a DriveState (30_encoding.md R62, R65; the NotReady row is
the spec's decision D8); none for OperationEnabled, "handed to Motion Profiler". -/
def DriveState.controlWord : DriveState → Option Half
  | .fault => some 0x0080
  | .switchOnDisabled => some 0x0006
  | .readyToSwitchOn => some 0x0007
  | .switchedOn => some 0x000F
  | .operationEnabled => none
  | .notReady => some 0x0000

/-! ### Formats MS and BS (30_encoding.md R67, R68) -/

/-- The operation a MotionState selects (30_encoding.md R67). -/
def MotionState.instr : MotionState → Instr
  | .idle => .mpIdle
  | .accelerating => .mpAcc
  | .cruising => .mpCru
  | .decelerating => .mpDec

/-- Format MS. -/
def decodeMs (c : Code2) : Instr := (MotionState.ofCode c).instr

/-- The operation a bus state selects (30_encoding.md R68). -/
def BusState.instr : BusState → Instr
  | .waitingForClockSync => .bsWait
  | .requestingOperational => .bsReq
  | .operational => .bsOp
  | .error => .bsErr

/-- Format BS. -/
def decodeBs (c : Code2) : Instr := (BusState.ofCode c).instr

/-! ### Format HC (30_encoding.md R70, R72) -/

/-- Why a word is no operation. -/
inductive DecodeError where
  /-- a doorbell opcode 30_encoding.md R70 does not list (R72: "reserved and is refused with
  `E_BAD_OPCODE`") -/
  | reservedOpcode (op : Byte)
deriving DecidableEq, Repr

/-- `op = w[7:0]`; "`w[31:8]` is ignored" (30_encoding.md R70). -/
def opByte (w : Word) : Byte := w.setWidth 8

/-- Format HC (30_encoding.md R70). -/
def decodeHc (w : Word) : Except DecodeError Instr :=
  if opByte w = 0x01 then .ok .hcStart
  else if opByte w = 0x02 then .ok .hcStop
  else if opByte w = 0x10 then .ok .hcMoveAbs
  else if opByte w = 0x11 then .ok .hcMoveRel
  else if opByte w = 0x12 then .ok .hcSetVel
  else .error (.reservedOpcode (opByte w))

/-! ### All formats, and the encoder -/

/-- The word of a format, in the low bits of `w`, read as an operation. Total; a reserved doorbell
opcode is rejected by name (30_encoding.md R72). -/
def decode (f : Format) (w : Word) : Except DecodeError Instr :=
  match f with
  | .sw => .ok (decodeSw (w.setWidth 16))
  | .ms => .ok (decodeMs (w.setWidth 2))
  | .bs => .ok (decodeBs (w.setWidth 2))
  | .hc => decodeHc w

/-- The format, the mask and the match of an operation's row (30_encoding.md R62, R67, R68, R70);
none for the triggered operations (R60: "an empty mask and match"). -/
def Instr.row : Instr → Option (Format × Word × Word)
  | .dsFault => some (.sw, 0x0008, 0x0008)
  | .dsSod => some (.sw, 0x004F, 0x0040)
  | .dsRtso => some (.sw, 0x006F, 0x0021)
  | .dsSon => some (.sw, 0x006F, 0x0023)
  | .dsOpen => some (.sw, 0x006F, 0x0027)
  | .dsNrdy => some (.sw, 0x0000, 0x0000)
  | .mpIdle => some (.ms, 0x3, 0x0)
  | .mpAcc => some (.ms, 0x3, 0x1)
  | .mpCru => some (.ms, 0x3, 0x2)
  | .mpDec => some (.ms, 0x3, 0x3)
  | .mpOrigin => none
  | .mpAbort => none
  | .mpAdopt => none
  | .mpVel => none
  | .bsWait => some (.bs, 0x3, 0x0)
  | .bsReq => some (.bs, 0x3, 0x1)
  | .bsOp => some (.bs, 0x3, 0x2)
  | .bsErr => some (.bs, 0x3, 0x3)
  | .hcStart => some (.hc, 0xFF, 0x01)
  | .hcStop => some (.hc, 0xFF, 0x02)
  | .hcMoveAbs => some (.hc, 0xFF, 0x10)
  | .hcMoveRel => some (.hc, 0xFF, 0x11)
  | .hcSetVel => some (.hc, 0xFF, 0x12)

/-- The word that selects an operation: its row's match, every bit the row leaves free zero. None for
the triggered operations, which no word selects (30_encoding.md R60). -/
def encode (i : Instr) : Option (Format × Word) :=
  match i.row with
  | some (f, _, m) => some (f, m)
  | none => none

/-! ### The host's reading of a table row -/

/-- Which format a row of `nbits` bits is in. A 16-bit row is format SW and a 32-bit row format HC.
The 2-bit codes of formats MS and BS are the same words: nothing in the word tells them apart (the
format is chosen by the phase, 30_encoding.md R60), so a byte below 4 is read as format MS; any other
byte is read as a doorbell opcode if it is one and else as the low byte of a status word.
DESIGN CHOICE, safe: log 11. -/
def tableFormat (nbits w : Nat) : Option Format :=
  if nbits = 32 then some .hc
  else if nbits = 16 then some .sw
  else if nbits = 8 then
    if w < 4 then some .ms
    else match decodeHc (BitVec.ofNat 32 w) with
      | .ok _ => some .hc
      | .error _ => some .sw
  else none

/-- The operation the decoder reads from a row's word. -/
def decodeTableWord (nbits w : Nat) : Option Instr :=
  match tableFormat nbits w with
  | none => none
  | some f =>
    match decode f (BitVec.ofNat 32 w) with
    | .ok i => some i
    | .error _ => none

end Sys2Proof
end

