-- ==== Sys2Proof/Machine/State.lean ====
section
/-! DEFINITION. The state of DSM402 as plain data (10_state.md R10 to R31, 20_memory.md R40 to R42),
the model's own fields that carry the inputs of a step, the two ways a step can stop, and reset. -/

namespace Sys2Proof.Machine

/-- A process-data record: its bytes that are not zero, by offset (20_memory.md R40). The canonical
form is `Memory.wf` of Machine/Ops.lean; an unlisted byte reads 0, the reset content (20 R55). -/
abbrev Memory := List Host.Cell

/-- The 23 bytes an exchange delivers, by field (20_memory.md R42; 42_cyclic_scheduler.md R141). The
five fields no rule reads are carried (92_eei_decisions.md D31; log 16). -/
structure InRecord where
  statusWord : Half
  actualPosition : Word
  actualVelocity : Word
  actualTorque : Half
  followingError : Word
  modeDisplay : Byte
  touchProbeStatus : Half
  touchProbePosition : Word
deriving DecidableEq, Repr

/-- The bus collaborator's answers in one tick: free inputs (42_cyclic_scheduler.md R143,
43_bus_state_monitor.md R160, 93_implementation_defined.md U5). -/
structure TickInput where
  /-- `exchange.in` -/
  record : InRecord
  /-- `exchange.wkc`, 32-bit signed -/
  wkc : Word
  /-- `dc_synced` -/
  dcSynced : Bool
  /-- `bus_is_op` -/
  busIsOp : Bool
  /-- `bus_is_err` -/
  busIsErr : Bool
deriving DecidableEq, Repr

/-- A 32-bit access of the host to a register number (10_state.md R27). -/
inductive Access where
  /-- the host writes `w` to register number `n` -/
  | write (n : Nat) (w : Word)
  /-- the host reads register number `n` -/
  | read (n : Nat)
deriving DecidableEq, Repr

/-- What happens next: the statements of a trace (30_encoding.md R74), each after the one before it
has run to its end, and the overlaps of host and tick that 20_memory.md R48 leaves open.
DESIGN CHOICE, safe: log 1. -/
inductive Stimulus where
  /-- the time base reads `t` (42_cyclic_scheduler.md R140) -/
  | advance (t : Dword)
  /-- a host access between ticks -/
  | host (a : Access)
  /-- a host access that falls inside the tick in progress (20_memory.md R48 item 4) -/
  | hostInside (a : Access)
  /-- the one reset (70_reset_and_hazards.md R210) -/
  | reset
  /-- the core looks at its gate; if it is open a tick begins, with these answers of the
  collaborator (42_cyclic_scheduler.md R142, R143) -/
  | tick (inp : TickInput)
  /-- the core does the next step of its tick; in the publish phase it stores register `pick` if that
  is still to be stored (44_host_channel.md R176: the order is unspecified) -/
  | core (pick : Option SnapReg)
deriving DecidableEq, Repr

/-- What the core does next in its tick (42_cyclic_scheduler.md R142; 41_motion_profiler.md R117).
Phase 0 is done when the tick begins. DESIGN CHOICE, safe: log 2. -/
inductive Phase where
  /-- no tick is in progress -/
  | idle
  /-- phase 1, exchange and working-counter check -/
  | exchange
  /-- phase 2, bus state monitor -/
  | monitor
  /-- phase 3, drive state machine -/
  | drive
  /-- phase 4, motion profiler, from its start -/
  | profiler
  /-- phase 4, after MP.ADOPT: the operation `motion_state` selects -/
  | motion
  /-- phase 4, PositionOutput and EnabledControlWord -/
  | outputs
  /-- phase 6, publish; the registers still to be stored -/
  | publish (left : List SnapReg)
  /-- phase 7, stop check -/
  | stopCheck
deriving DecidableEq, Repr

/-- What the machine puts out: the events of 60_exceptions.md R194 ("a model may expose" them), the
pulses and records on the collaborator's ports, and what a host read returned. DESIGN CHOICE, safe:
log 10. -/
inductive Output where
  /-- `raise` (60_exceptions.md R194) -/
  | event (e : Event)
  /-- `emit request_state(...)` (43_bus_state_monitor.md R160) -/
  | request (t : BusTarget)
  /-- the bytes of `PDO_OUT` an exchange sent, lowest offset first (42_cyclic_scheduler.md R143) -/
  | sent (bytes : List Byte)
  /-- the host read value `v` in register number `n` (44_host_channel.md R177) -/
  | readBack (n : Nat) (v : Word)
deriving DecidableEq, Repr

/-- The state. Names are those of 10_state.md; INVENTORY.md lists each with its rule. -/
structure State where
  /-- parameters (00_scope.md R5); the model's own field, never written: log 8 -/
  params : Params
  /-- `pos_ref`, 64-bit signed, 1/`S2` count (R11) -/
  posRef : Dword
  /-- `vel_ref`, 64-bit signed, 1/`S1` count/s (R11) -/
  velRef : Dword
  /-- `tgt`, signed counts (R11) -/
  tgt : Word
  /-- `vmax`, unsigned counts/s (R11) -/
  vmax : Word
  /-- `acc`, unsigned counts/s² (R11) -/
  acc : Word
  /-- `vel_cmd`, signed counts/s (R11) -/
  velCmd : Word
  /-- `motion_state` (R13) -/
  motionState : MotionState
  /-- `bus_state` (R14) -/
  busState : BusState
  /-- `run_state` (R15), host register 17 -/
  runState : RunState
  /-- `drive_op` (R16) -/
  driveOp : Bool
  /-- `fault` (R16) -/
  fault : Bool
  /-- `shutdown` (R16), host register 16 -/
  shutdown : Bool
  /-- `ack` (R16) -/
  ack : Bool
  /-- `cmd_pending` (R16, R20) -/
  cmdPending : Bool
  /-- `vel_active` (R16) -/
  velActive : Bool
  /-- `next_wake`, nanoseconds (R18) -/
  nextWake : Dword
  /-- `wkc_err_count`, saturating (R19), host register 18 -/
  wkcErrCount : Word
  /-- `pend_kind` (R20) -/
  pendKind : PendKind
  /-- `pend_target` (R20) -/
  pendTarget : Word
  /-- `pend_vmax` (R20) -/
  pendVmax : Word
  /-- `pend_acc` (R20) -/
  pendAcc : Word
  /-- `MODE`, 8-bit signed (R24), host register 2 -/
  mode : Byte
  /-- `EXPECTED_WKC`, 32-bit signed (R24), host register 3 -/
  expectedWkc : Word
  /-- `RESULT` (R25), host register 1 -/
  result : Word
  /-- `CMD_TARGET` (R25), host register 4 -/
  cmdTarget : Word
  /-- `CMD_VMAX` (R25), host register 5 -/
  cmdVmax : Word
  /-- `CMD_ACCEL` (R25), host register 6 -/
  cmdAccel : Word
  /-- `ERRCODE` (R26), host register 7, owned by the host -/
  errcode : Word
  /-- `SNAP_BUS_OP` (R26), host register 8 -/
  snapBusOp : Word
  /-- `SNAP_DRIVE_OP` (R26), host register 9 -/
  snapDriveOp : Word
  /-- `SNAP_FAULT` (R26), host register 10 -/
  snapFault : Word
  /-- `SNAP_SW` (R26), host register 11 -/
  snapSw : Word
  /-- `SNAP_CW` (R26), host register 12 -/
  snapCw : Word
  /-- `SNAP_APOS` (R26), host register 13 -/
  snapApos : Word
  /-- `SNAP_AVEL` (R26), host register 14 -/
  snapAvel : Word
  /-- `SNAP_MSTATE` (R26), host register 15 -/
  snapMstate : Word
  /-- `PDO_OUT`, 17 bytes (20_memory.md R41) -/
  pdoOut : Memory
  /-- `PDO_IN`, 23 bytes (20_memory.md R42) -/
  pdoIn : Memory
  /-- `now`, the time base (42_cyclic_scheduler.md R140); the model's own field: log 6 -/
  now : Dword
  /-- the collaborator's answers for the tick in progress; the model's own field: log 9 -/
  tickIn : TickInput
  /-- where the core is in its tick; the model's own field: log 2 -/
  phase : Phase
  /-- the stimuli still to come, next first; the model's own field: log 1 -/
  inputs : List Stimulus
  /-- the outputs since reset, newest first; the model's own field: log 10 -/
  trace : List Output
  /-- how many free values have been drawn; the model's own field: log 5 -/
  freeCount : Nat
deriving DecidableEq, Repr

/-- Why a step stops with a fault. The hardware has none: "no access faults" (20_memory.md R44), no
trap mechanism (60_exceptions.md R194). -/
inductive Fault where
  /-- Raised by `step` (never by an operation) when the next stimulus sets the time base back:
  42_cyclic_scheduler.md R140 says `now` "never decreases", so the spec has no such input. Safe: the
  model stops on an input the hardware never has (log 7). -/
  | timeBaseDecreased
deriving DecidableEq, Repr

/-- Why an operation has no meaning. -/
inductive Refusal where
  /-- Raised by an arm of `exec` for an operation that has no meaning yet; no arm does. Safe: the
  model stops where the hardware goes on. -/
  | notModelled (mnemonic : String)
deriving DecidableEq, Repr

/-- An input record of zero bytes. -/
def InRecord.zero : InRecord :=
  { statusWord := 0, actualPosition := 0, actualVelocity := 0, actualTorque := 0,
    followingError := 0, modeDisplay := 0, touchProbeStatus := 0, touchProbePosition := 0 }

/-- No answer yet: all zero. DESIGN CHOICE: log 9. -/
def TickInput.zero : TickInput :=
  { record := .zero, wkc := 0, dcSynced := false, busIsOp := false, busIsErr := false }

/-- The state after reset: 10_state.md R31, 70_reset_and_hazards.md R210, "all zero". The model's own
fields (`params`, `now`, `tickIn`, `phase`, `inputs`, `trace`, `freeCount`) hold the values of logs 5,
6, 8, 9, 10 and 20 (DESIGN CHOICE). -/
def State.reset : State :=
  { params := Params.reference,
    posRef := 0, velRef := 0, tgt := 0, vmax := 0, acc := 0, velCmd := 0,
    motionState := .idle, busState := .waitingForClockSync, runState := .halted,
    driveOp := false, fault := false, shutdown := false, ack := false, cmdPending := false,
    velActive := false,
    nextWake := 0, wkcErrCount := 0,
    pendKind := .absolute, pendTarget := 0, pendVmax := 0, pendAcc := 0,
    mode := 0, expectedWkc := 0,
    result := 0, cmdTarget := 0, cmdVmax := 0, cmdAccel := 0,
    errcode := 0, snapBusOp := 0, snapDriveOp := 0, snapFault := 0, snapSw := 0, snapCw := 0,
    snapApos := 0, snapAvel := 0, snapMstate := 0,
    pdoOut := [], pdoIn := [],
    now := 0, tickIn := .zero, phase := .idle, inputs := [], trace := [], freeCount := 0 }

end Sys2Proof.Machine
end

