-- ==== Sys2Proof/Machine/Ops.lean ====
section
/-! DEFINITION. The shared operations: bytes of a record and the byte order (20_memory.md R43), the
saturations (00_scope.md section 5), recording an event (60_exceptions.md R194) and emitting on the
collaborator's ports. -/

namespace Sys2Proof.Machine

/-! ### Bytes of a record -/

/-- The byte at an offset; an unlisted byte reads 0, the reset content of both records (20_memory.md
R55). DEDUCED, safe: log 15. -/
def Memory.read : Memory → Nat → Byte
  | [], _ => 0
  | (k, b) :: m, a => if k = a then b else Memory.read m a

/-- The record without the cells at an offset. -/
def Memory.erase (m : Memory) (a : Nat) : Memory := m.filter fun c => c.1 != a

/-- The record with a cell put before the first cell of a higher offset. -/
def Memory.insert (a : Nat) (b : Byte) : Memory → Memory
  | [] => [(a, b)]
  | c :: m => if a < c.1 then (a, b) :: c :: m else c :: Memory.insert a b m

/-- Write one byte, keeping the canonical form: a byte written 0 is not listed. -/
def Memory.write (m : Memory) (a : Nat) (b : Byte) : Memory :=
  if b = 0 then m.erase a else Memory.insert a b (m.erase a)

/-- Offsets rise strictly from `lo`, each is below `size`, and no listed byte is 0. -/
def Memory.wfFrom (size : Nat) : Nat → Memory → Bool
  | _, [] => true
  | lo, (k, b) :: m => decide (lo ≤ k) && decide (k < size) && b != 0 && Memory.wfFrom size (k + 1) m

/-- The canonical form of a record of `size` bytes. -/
def Memory.wf (size : Nat) (m : Memory) : Bool := Memory.wfFrom size 0 m

/-- `MemRead(rec, off, n)`: "sum over k in 0..n-1 of byte[off+k] * 256^k" (20_memory.md R43). -/
def Memory.loadLE (m : Memory) (off : Nat) : Nat → Nat
  | 0 => 0
  | n + 1 => (m.read off).toNat + 256 * Memory.loadLE m (off + 1) n

/-- `MemWrite(rec, off, n, v)`: "stores `(v >> 8k) & 0xFF` at `off + k`" (20_memory.md R43). -/
def Memory.storeLE (m : Memory) (off : Nat) : Nat → Nat → Memory
  | 0, _ => m
  | n + 1, v => Memory.storeLE (m.write off (BitVec.ofNat 8 v)) (off + 1) n (v / 256)

/-- The bytes of a record, lowest offset first. -/
def Memory.bytes (m : Memory) (size : Nat) : List Byte := (List.range size).map fun a => m.read a

/-! ### Saturation (00_scope.md section 5) -/

/-- `sat32(x)`. -/
def sat32 (x : Int) : Int := max (-2147483648) (min 2147483647 x)

/-- `sat64(x)`. -/
def sat64 (x : Int) : Int := max (-9223372036854775808) (min 9223372036854775807 x)

/-- `fdiv(a, b)`: floor division, "in Lean 4, `a / b` on `Int` with positive `b`". -/
def fdiv (a b : Int) : Int := a / b

/-! ### Events and ports -/

/-- Put out one thing; the list is newest first. -/
def State.push (o : Output) (s : State) : State := { s with trace := o :: s.trace }

/-- Taking an exception on this hardware: `raise E(info)` "does not transfer control". It appends the
event to the list of outputs and the step goes on: no saved program counter, no cause register, no
mode switch, no vector (60_exceptions.md R194). There is no return: "Nothing returns, because
nothing was entered" (R199). What an event changes besides is written out in the raising rule. -/
def State.raise (e : Event) (s : State) : State := s.push (.event e)

/-- `emit request_state(X)` (43_bus_state_monitor.md R160). -/
def State.request (t : BusTarget) (s : State) : State := s.push (.request t)

end Sys2Proof.Machine
end

