-- ==== Sys2Proof/Machine/Operands.lean ====
section
/-! DEFINITION. Every operand form: the fields of the two records (20_memory.md R41, R42), the scales
that follow from the parameters (00_scope.md R5), the registers read as integers (10_state.md R11),
and the values the host reads (44_host_channel.md R177). -/

namespace Sys2Proof.Machine

/-! ### Record fields -/

/-- Byte offset (20_memory.md R41). -/
def OutField.offset : OutField → Nat
  | .controlWord => 0
  | .targetPosition => 2
  | .targetVelocity => 6
  | .targetTorque => 10
  | .modeOfOperation => 12
  | .velocityOffset => 13

/-- Bytes (20_memory.md R41). -/
def OutField.size : OutField → Nat
  | .controlWord => 2
  | .targetPosition => 4
  | .targetVelocity => 4
  | .targetTorque => 2
  | .modeOfOperation => 1
  | .velocityOffset => 4

/-- Byte offset (20_memory.md R42). -/
def InField.offset : InField → Nat
  | .statusWord => 0
  | .actualPosition => 2
  | .actualVelocity => 6
  | .actualTorque => 10
  | .followingError => 12
  | .modeDisplay => 16
  | .touchProbeStatus => 17
  | .touchProbePosition => 19

/-- Bytes (20_memory.md R42). -/
def InField.size : InField → Nat
  | .statusWord => 2
  | .actualPosition => 4
  | .actualVelocity => 4
  | .actualTorque => 2
  | .followingError => 4
  | .modeDisplay => 1
  | .touchProbeStatus => 2
  | .touchProbePosition => 4

/-- `PDO_OUT` has 17 bytes (20_memory.md R40, R41). -/
def outSize : Nat := 17

/-- `PDO_IN` has 23 bytes (20_memory.md R40, R42). -/
def inSize : Nat := 23

/-- `MemRead(PDO_OUT, ...)` of a field at its own full width (20_memory.md R43, R45). -/
def State.readOut (s : State) (f : OutField) : Nat := s.pdoOut.loadLE (OutField.offset f) (OutField.size f)

/-- `MemRead(PDO_IN, ...)` of a field at its own full width (20_memory.md R43, R45). -/
def State.readIn (s : State) (f : InField) : Nat := s.pdoIn.loadLE (InField.offset f) (InField.size f)

/-- `MemWrite(PDO_OUT, ...)` of a field at its own full width (20_memory.md R43, R45). -/
def State.writeOut (f : OutField) (v : Nat) (s : State) : State :=
  { s with pdoOut := s.pdoOut.storeLE (OutField.offset f) (OutField.size f) v }

/-- `PDO_IN.status_word`, unsigned (20_memory.md R45). -/
def State.statusWord (s : State) : Half := BitVec.ofNat 16 (s.readIn .statusWord)

/-- `PDO_IN.actual_position` (20_memory.md R42). -/
def State.actualPosition (s : State) : Word := BitVec.ofNat 32 (s.readIn .actualPosition)

/-- `PDO_IN.actual_velocity` (20_memory.md R42). -/
def State.actualVelocity (s : State) : Word := BitVec.ofNat 32 (s.readIn .actualVelocity)

/-- The 23 bytes of an input record (20_memory.md R42, R43). -/
def InRecord.toMemory (r : InRecord) : Memory :=
  let put (f : InField) (v : Nat) (m : Memory) : Memory :=
    m.storeLE (InField.offset f) (InField.size f) v
  put .touchProbePosition r.touchProbePosition.toNat <|
  put .touchProbeStatus r.touchProbeStatus.toNat <|
  put .modeDisplay r.modeDisplay.toNat <|
  put .followingError r.followingError.toNat <|
  put .actualTorque r.actualTorque.toNat <|
  put .actualVelocity r.actualVelocity.toNat <|
  put .actualPosition r.actualPosition.toNat <|
  put .statusWord r.statusWord.toNat []

/-! ### Scales (00_scope.md R5) -/

/-- `S1`, equal to `TICK_HZ`. -/
def State.s1 (s : State) : Int := (s.params.tickHz : Int)

/-- `S2`, equal to `TICK_HZ`^2. -/
def State.s2 (s : State) : Int := (s.params.tickHz : Int) * (s.params.tickHz : Int)

/-- `PERIOD_NS`, equal to 10^9 / `TICK_HZ` (00_scope.md R6: exactly). -/
def State.periodNs (s : State) : Nat := 1000000000 / s.params.tickHz

/-! ### Registers as integers (10_state.md R11; 41_motion_profiler.md R101, R102) -/

/-- `pos_ref`, signed. -/
def State.pos (s : State) : Int := s.posRef.toInt

/-- `vel_ref`, signed. -/
def State.vel (s : State) : Int := s.velRef.toInt

/-- `acc`, unsigned. -/
def State.accel (s : State) : Int := (s.acc.toNat : Int)

/-- `vmax * S1` (41_motion_profiler.md R101). -/
def State.velLimit (s : State) : Int := (s.vmax.toNat : Int) * s.s1

/-- `tgt * S2` (41_motion_profiler.md R101). -/
def State.target (s : State) : Int := s.tgt.toInt * s.s2

/-- `D = tgt * S2 - pos_ref` (41_motion_profiler.md R104). -/
def State.distance (s : State) : Int := s.target - s.pos

/-- `d = +1 if D >= 0 else -1` (41_motion_profiler.md R104). -/
def State.direction (s : State) : Int := if 0 ≤ s.distance then 1 else -1

/-- `sat32(fdiv(pos_ref, S2))`: the commanded position in counts (41_motion_profiler.md R103, R111). -/
def State.counts (s : State) : Int := sat32 (fdiv s.pos s.s2)

/-! ### Host register values (44_host_channel.md R177) -/

/-- A 1-bit flag in a 32-bit register (10_state.md R26: "Unused upper bits read as 0"). -/
def flagWord (b : Bool) : Word := if b then 1 else 0

/-- What a host read returns (10_state.md R24 to R26, 44_host_channel.md R177). -/
def State.hostReg (s : State) : HostReg → Word
  | .ctrl => 0
  | .result => s.result
  | .mode => s.mode.signExtend 32
  | .expectedWkc => s.expectedWkc
  | .cmdTarget => s.cmdTarget
  | .cmdVmax => s.cmdVmax
  | .cmdAccel => s.cmdAccel
  | .errcode => s.errcode
  | .snapBusOp => s.snapBusOp
  | .snapDriveOp => s.snapDriveOp
  | .snapFault => s.snapFault
  | .snapSw => s.snapSw
  | .snapCw => s.snapCw
  | .snapApos => s.snapApos
  | .snapAvel => s.snapAvel
  | .snapMstate => s.snapMstate
  | .shutdown => flagWord s.shutdown
  | .runState => s.runState.code.setWidth 32
  | .wkcErrCount => s.wkcErrCount

/-- What a host read of a register number returns: "any other number reads 0" (10_state.md R27). -/
def State.hostValue (s : State) (n : Nat) : Word :=
  match HostReg.ofNumber n with
  | some r => s.hostReg r
  | none => 0

end Sys2Proof.Machine
end

