-- ==== Sys2Proof/Machine/Flags.lean ====
section
/-! DEFINITION. Every flag and condition the spec computes: the fault flag (40 R90), the conditions of
the profiler (41 R104, R106, R108), command validation (44 R180), the working-counter test (42 R144),
the gate (42 R142). The hardware "has no arithmetic condition codes" (10_state.md section 5). -/

namespace Sys2Proof.Machine

/-- `fault` is 1 exactly when `decode(sw) = Fault` (40_drive_state_machine.md R90). -/
def faultFlag (sw : Half) : Bool := decide (decodeStatus sw = .fault)

/-- `near = (2 * acc * abs(D) <= vel_ref * vel_ref)` (41_motion_profiler.md R104). -/
def State.near (s : State) : Bool :=
  decide (2 * s.accel * (s.distance.natAbs : Int) ≤ s.vel * s.vel)

/-- `abs(vel_ref) >= vmax * S1` (41_motion_profiler.md R106). -/
def State.atLimit (s : State) : Bool := decide (s.velLimit ≤ (s.vel.natAbs : Int))

/-- `arrived` (41_motion_profiler.md R108): its three conditions, in the document's order. -/
def State.arrived (s : State) : Bool :=
  decide (s.direction * s.vel ≤ 0)
    || decide ((s.distance.natAbs : Int) < (s.params.posTol : Int) * s.s2)
    || decide (s.vel.sign * s.distance < 0)

/-- `Valid(v, a)` (44_host_channel.md R180), on registers read as signed. -/
def validLimits (v a : Word) : Bool :=
  decide (1 ≤ v.toInt) && decide (v.toInt ≤ 2147483647) &&
    decide (1 ≤ a.toInt) && decide (a.toInt ≤ 2147483647)

/-- `bus_state = Operational and wkc < EXPECTED_WKC`, signed (42_cyclic_scheduler.md R144). -/
def State.wkcShort (s : State) : Bool :=
  decide (s.busState = .operational) && decide (s.tickIn.wkc.toInt < s.expectedWkc.toInt)

/-- The gate: `run_state = Running and now >= next_wake` (42_cyclic_scheduler.md R142). -/
def State.gateOpen (s : State) : Bool :=
  decide (s.runState = .running) && decide (s.nextWake.toNat ≤ s.now.toNat)

/-- `MODE` is one of the two legal modes (30_encoding.md R73; 44_host_channel.md R171). -/
def State.modeLegal (s : State) : Bool :=
  decide (s.mode = s.params.modePos) || decide (s.mode = s.params.modeVel)

end Sys2Proof.Machine
end

