-- ==== Sys2Proof/Machine/BusMonitor.lean ====
section
/-! DEFINITION. The Bus State Monitor (spec/43_bus_state_monitor.md): operations BS.*. The three
inputs are the collaborator's answers of this tick (R160). -/

namespace Sys2Proof.Machine

/-- `bus_state <- Error ; shutdown <- 1 ; raise BusError` (R162, R163; 60_exceptions.md R193). -/
def State.busError (s : State) : State :=
  { s with busState := .error, shutdown := true }.raise .busError

/-- BS.WAIT (R162). -/
def execBsWait (s : State) : Host.Outcome State Fault Refusal :=
  if s.tickIn.busIsErr then .next s.busError
  else if s.tickIn.dcSynced then .next ({ s with busState := .requestingOperational }.request .op)
  else .next s

/-- BS.REQ (R163). -/
def execBsReq (s : State) : Host.Outcome State Fault Refusal :=
  if s.tickIn.busIsErr then .next s.busError
  else if s.tickIn.busIsOp then .next { s with busState := .operational }
  else .next s

/-- BS.OP (R164): "Pseudocode: nothing". -/
def execBsOp (s : State) : Host.Outcome State Fault Refusal := .next s

/-- BS.ERR (R165): "Pseudocode: nothing". -/
def execBsErr (s : State) : Host.Outcome State Fault Refusal := .next s

end Sys2Proof.Machine
end

