-- ==== Sys2Proof/Machine/Profiler.lean ====
section
/-! DEFINITION. The Motion Profiler (spec/41_motion_profiler.md): operations MP.* and the procedures
they share, R104, R105, R110. -/

namespace Sys2Proof.Machine

/-! ### Shared procedures -/

/-- `VelAcc(d)`, on integers (R105). -/
def velAcc (d v a lim : Int) : Int := if d = 1 then min (v + a) lim else max (v - a) (-lim)

/-- `VelCru(d)`, on integers (R105). -/
def velCru (d lim : Int) : Int := d * lim

/-- `VelDec(d)`, on integers (R105). -/
def velDec (d v a : Int) : Int := if d = 1 then max (v - a) 0 else min (v + a) 0

/-- Write `vel_ref`. No value of R105 leaves 64 bits for legal parameters (R102). -/
def State.setVel (v : Int) (s : State) : State := { s with velRef := BitVec.ofInt 64 v }

/-- `PosStep: pos_ref <- sat64(pos_ref + vel_ref)`, with the `vel_ref` just written (R110). -/
def State.posStep (s : State) : State := { s with posRef := BitVec.ofInt 64 (sat64 (s.pos + s.vel)) }

/-- A velocity update of R105 and then `PosStep` (R110). -/
def State.ramp (v : Int) (s : State) : State := (s.setVel v).posStep

/-- `VelAcc(d)`, then `PosStep` (R106). -/
def State.accelerate (s : State) : State := s.ramp (velAcc s.direction s.vel s.accel s.velLimit)

/-- `VelCru(d)`, then `PosStep` (R107). -/
def State.cruise (s : State) : State := s.ramp (velCru s.direction s.velLimit)

/-- `VelDec(d)`, then `PosStep` (R108). -/
def State.decelerate (s : State) : State := s.ramp (velDec s.direction s.vel s.accel)

/-- `motion_state <- Cruising ; VelCru(d)`, then `PosStep` (R106). -/
def State.enterCruising (s : State) : State := { s.cruise with motionState := .cruising }

/-- `motion_state <- Decelerating ; VelDec(d)`, then `PosStep` (R106, R107). -/
def State.enterDecelerating (s : State) : State := { s.decelerate with motionState := .decelerating }

/-- Arrival: `motion_state <- Idle ; vel_ref <- 0 ; pos_ref <- tgt * S2` (R108). -/
def State.arrive (s : State) : State :=
  { s with motionState := .idle, velRef := 0, posRef := BitVec.ofInt 64 s.target }

/-- `pos_ref <- s32(actual_position) * S2` (40_drive_state_machine.md R89). -/
def State.takeOrigin (s : State) : State :=
  { s with posRef := BitVec.ofInt 64 (s.actualPosition.toInt * s.s2) }

/-- `motion_state <- Idle ; vel_ref <- 0 ; vel_active <- 0` (R112). -/
def State.abort (s : State) : State := { s with motionState := .idle, velRef := 0, velActive := false }

/-- `tgt` after adoption: "relative: target position delta" from the commanded position, or the
absolute target (R103). -/
def State.adoptedTarget (s : State) : Word :=
  match s.pendKind with
  | .relative => BitVec.ofInt 32 (sat32 (s.counts + s.pendTarget.toInt))
  | .absolute => s.pendTarget
  | .velocity => s.pendTarget

/-! ### The operations -/

/-- MP.IDLE (R109): "Pseudocode: nothing". -/
def execMpIdle (s : State) : Host.Outcome State Fault Refusal := .next s

/-- MP.ACC (R106). -/
def execMpAcc (s : State) : Host.Outcome State Fault Refusal :=
  if s.near then .next s.enterDecelerating
  else if s.atLimit then .next s.enterCruising
  else .next s.accelerate

/-- MP.CRU (R107). -/
def execMpCru (s : State) : Host.Outcome State Fault Refusal :=
  if s.near then .next s.enterDecelerating else .next s.cruise

/-- MP.DEC (R108). -/
def execMpDec (s : State) : Host.Outcome State Fault Refusal :=
  if s.arrived then .next s.arrive else .next s.decelerate

/-- MP.ORIGIN (40_drive_state_machine.md R89). -/
def execMpOrigin (s : State) : Host.Outcome State Fault Refusal := .next s.takeOrigin

/-- MP.ABORT (R112). -/
def execMpAbort (s : State) : Host.Outcome State Fault Refusal := .next s.abort

/-- MP.ADOPT (R103). "vel_ref and pos_ref are not changed". -/
def execMpAdopt (s : State) : Host.Outcome State Fault Refusal :=
  .next { s with
    tgt := s.adoptedTarget, vmax := s.pendVmax, acc := s.pendAcc,
    motionState := .accelerating, cmdPending := false, ack := !s.ack }

/-- The adoption of a velocity command, if one is pending (R113, first line). -/
def State.adoptVelocity (s : State) : State :=
  if s.cmdPending then { s with velCmd := s.pendTarget, velActive := true, cmdPending := false } else s

/-- MP.VEL (R113). -/
def execMpVel (s : State) : Host.Outcome State Fault Refusal :=
  let t := s.adoptVelocity
  .next ((t.writeOut .targetVelocity (if t.velActive then t.velCmd.toNat else 0)).writeOut
    .targetPosition (s.readIn .actualPosition))

/-! ### Outputs while the drive is enabled -/

/-- PositionOutput (R111). -/
def State.positionOutput (s : State) : State :=
  (s.writeOut .targetPosition (BitVec.ofInt 32 s.counts).toNat).writeOut .targetVelocity 0

/-- The control word while enabled (R114; 30_encoding.md R65). -/
def State.enabledWord (s : State) : Half := if s.ack then 0x000F ||| s.params.ackMask else 0x000F

/-- The end of the profiler phase (R117): PositionOutput in position mode, and in both modes
EnabledControlWord (R114). -/
def State.profilerOutputs (s : State) : State :=
  let t := if s.mode = s.params.modePos then s.positionOutput else s
  t.writeOut .controlWord t.enabledWord.toNat

end Sys2Proof.Machine
end

