-- ==== Sys2Proof/Machine/Drive.lean ====
section
/-! DEFINITION. The Drive State Machine (spec/40_drive_state_machine.md): operations DS.*. Each is
selected by the status word; a meaning performs its operation's pseudocode without testing the
selection again and writes `fault` as its row says. DEDUCED, safe: log 13. -/

namespace Sys2Proof.Machine

/-- `NotEnabled(cw)` (R88). -/
def State.notEnabled (cw : Half) (s : State) : State :=
  let t := if s.driveOp then s.abort else s
  ((({ t with driveOp := false }.writeOut .controlWord cw.toNat).writeOut
    .targetPosition (s.readIn .actualPosition)).writeOut .targetVelocity 0)

/-- `fault <- b` (R90). -/
def State.setFault (b : Bool) (s : State) : State := { s with fault := b }

/-- DS.FAULT (R82): `NotEnabled(0x0080)`, `fault <- 1`, `raise DriveFault(sw)`. -/
def execDsFault (s : State) : Host.Outcome State Fault Refusal :=
  .next (((s.setFault true).notEnabled 0x0080).raise (.driveFault s.statusWord))

/-- DS.SOD (R83): `NotEnabled(0x0006)`. -/
def execDsSod (s : State) : Host.Outcome State Fault Refusal :=
  .next ((s.setFault false).notEnabled 0x0006)

/-- DS.RTSO (R84): `NotEnabled(0x0007)`. -/
def execDsRtso (s : State) : Host.Outcome State Fault Refusal :=
  .next ((s.setFault false).notEnabled 0x0007)

/-- DS.SON (R85): `NotEnabled(0x000F)`. -/
def execDsSon (s : State) : Host.Outcome State Fault Refusal :=
  .next ((s.setFault false).notEnabled 0x000F)

/-- DS.OPEN (R86): on a rising edge of `drive_op` MP.ORIGIN (R89) and `drive_op <- 1`; no field of
`PDO_OUT` is written here. -/
def execDsOpen (s : State) : Host.Outcome State Fault Refusal :=
  .next (if s.driveOp then s.setFault false else { (s.setFault false).takeOrigin with driveOp := true })

/-- DS.NRDY (R87): `NotEnabled(0x0000)`. -/
def execDsNrdy (s : State) : Host.Outcome State Fault Refusal :=
  .next ((s.setFault false).notEnabled 0x0000)

end Sys2Proof.Machine
end

