-- ==== Sys2Proof/Machine/Scheduler.lean ====
section
/-! DEFINITION. The Cyclic Scheduler's own steps (spec/42_cyclic_scheduler.md R142 to R146): phases
0, 1 and 7 of a tick. They are no operations of the table. -/

namespace Sys2Proof.Machine

/-- `next_wake <- base + PERIOD_NS` (R145; 44_host_channel.md R171). A sum outside 64 bits is outside
the premise of R140: the register then holds a free value. DESIGN CHOICE, safe: log 5. -/
def State.setWake (base : Dword) (s : State) : State :=
  if base.toNat + s.periodNs < 2 ^ 64 then
    { s with nextWake := BitVec.ofNat 64 (base.toNat + s.periodNs) }
  else { s with nextWake := Config.freeWake s.freeCount, freeCount := s.freeCount + 1 }

/-- `run_state <- Stopped ; emit request_state(INIT)` (R146; 44_host_channel.md R171). -/
def State.stop (s : State) : State := { s with runState := .stopped }.request .init

/-- The gate is open: phase 0 advances the wake time from its previous value, "not now + period"
(R145), and the collaborator's answers of this tick are taken up (R143, 43 R160; log 9). -/
def State.beginTick (inp : TickInput) (s : State) : State :=
  { s.setWake s.nextWake with tickIn := inp, phase := .exchange }

/-- Phase 1a: all of `PDO_OUT` is sent, all 23 bytes of `PDO_IN` are replaced (R143). -/
def State.exchange (s : State) : State :=
  { s with pdoIn := s.tickIn.record.toMemory }.push (.sent (s.pdoOut.bytes outSize))

/-- Phase 1b: "record a soft communication fault but continue" (R144; 60_exceptions.md R192). -/
def State.wkcCheck (s : State) : State :=
  if s.wkcShort then
    { s with wkcErrCount := BitVec.ofNat 32 (min (s.wkcErrCount.toNat + 1) 4294967295) }.raise
      (.softCommFault s.tickIn.wkc)
  else s

/-- Phase 7 (R146). -/
def State.stopCheck (s : State) : State := if s.shutdown then s.stop else s

end Sys2Proof.Machine
end

