-- ==== Sys2Proof/Machine/HostChannel.lean ====
section
/-! DEFINITION. The Shared Status/Command Channel (spec/44_host_channel.md): the doorbell operations
HC.*, plain register writes (R178), reads (R177) and the publish phase (R176). The checks are made in the order the pseudocode lists
them and "an operation that fails a check writes `RESULT` and nothing else". -/

namespace Sys2Proof.Machine

/-- `RESULT <- code` (30_encoding.md R71). -/
def State.setResult (c : ResultCode) (s : State) : State := { s with result := c.code }

/-- HC.START (R171). -/
def execHcStart (s : State) : Host.Outcome State Fault Refusal :=
  if s.runState ≠ .halted then .next (s.setResult .eWrongState)
  else if ¬ s.modeLegal then .next (s.setResult .eWrongState)
  else
    let t := (s.writeOut .modeOfOperation s.mode.toNat).setWake s.now
    if s.shutdown then .next (t.stop.setResult .ok)
    else .next ({ t with runState := .running }.setResult .ok)

/-- HC.STOP (R172). -/
def execHcStop (s : State) : Host.Outcome State Fault Refusal :=
  .next ({ s with shutdown := true }.setResult .ok)

/-- The position moves: R173, and R174 "as rule R173 with `pend_kind <- 1`". -/
def State.submitMove (k : PendKind) (s : State) : State :=
  if s.runState = .stopped then s.setResult .eWrongState
  else if s.mode ≠ s.params.modePos then s.setResult .eWrongMode
  else if ¬ validLimits s.cmdVmax s.cmdAccel then (s.raise .invalidCommand).setResult .eInvalidCommand
  else { s with
    pendKind := k, pendTarget := s.cmdTarget, pendVmax := s.cmdVmax, pendAcc := s.cmdAccel,
    cmdPending := true }.setResult .ok

/-- HC.MOVE_ABS (R173). -/
def execHcMoveAbs (s : State) : Host.Outcome State Fault Refusal := .next (s.submitMove .absolute)

/-- HC.MOVE_REL (R174). -/
def execHcMoveRel (s : State) : Host.Outcome State Fault Refusal := .next (s.submitMove .relative)

/-- HC.SET_VEL (R175). `pend_vmax` and `pend_acc` "keep their values". -/
def execHcSetVel (s : State) : Host.Outcome State Fault Refusal :=
  if s.runState = .stopped then .next (s.setResult .eWrongState)
  else if s.mode ≠ s.params.modeVel then .next (s.setResult .eWrongMode)
  else .next ({ s with pendKind := .velocity, pendTarget := s.cmdTarget, cmdPending := true }.setResult .ok)

/-! ### Plain register accesses -/

/-- A host write to a register other than `CTRL` (R178). An ignored write changes nothing. -/
def State.plainWrite (r : HostReg) (w : Word) (s : State) : State :=
  match r with
  | .mode => if s.runState = .halted then { s with mode := w.setWidth 8, cmdPending := false } else s
  | .expectedWkc => if s.runState = .halted then { s with expectedWkc := w } else s
  | .cmdTarget => { s with cmdTarget := w }
  | .cmdVmax => { s with cmdVmax := w }
  | .cmdAccel => { s with cmdAccel := w }
  | .errcode => { s with errcode := w }
  | .ctrl | .result | .snapBusOp | .snapDriveOp | .snapFault | .snapSw | .snapCw | .snapApos
  | .snapAvel | .snapMstate | .shutdown | .runState | .wkcErrCount => s

/-- A host read (R177): it has no side effect, and its value is put out. -/
def State.hostRead (n : Nat) (s : State) : State := s.push (.readBack n (s.hostValue n))

/-! ### The publish phase -/

/-- The registers of R176, in the order R176 lists them (their order "is unspecified": log 4). -/
def SnapReg.all : List SnapReg := [.busOp, .driveOp, .fault, .sw, .cw, .apos, .avel, .mstate]

/-- One of the eight stores of the publish phase (R176). -/
def State.storeSnap (r : SnapReg) (s : State) : State :=
  match r with
  | .busOp => { s with snapBusOp := flagWord (decide (s.busState = .operational)) }
  | .driveOp => { s with snapDriveOp := flagWord s.driveOp }
  | .fault => { s with snapFault := flagWord s.fault }
  | .sw => { s with snapSw := BitVec.ofNat 32 (s.readIn .statusWord) }
  | .cw => { s with snapCw := BitVec.ofNat 32 (s.readOut .controlWord) }
  | .apos => { s with snapApos := BitVec.ofNat 32 (s.readIn .actualPosition) }
  | .avel => { s with snapAvel := BitVec.ofNat 32 (s.readIn .actualVelocity) }
  | .mstate => { s with snapMstate := s.motionState.code.setWidth 32 }

/-- Which register is stored next: the one the schedule picks if it is still to be stored, else the
first of the list. The order is open (20_memory.md R48 item 4): log 4. -/
def nextSnap (pick : Option SnapReg) (first : SnapReg) (rest : List SnapReg) : SnapReg :=
  match pick with
  | some r => if r ∈ first :: rest then r else first
  | none => first

end Sys2Proof.Machine
end

