-- ==== Sys2Proof/Machine/Dispatch.lean ====
section
/-! DEFINITION. One arm per operation of spec/opcode_table.json, each a call of its meaning. -/

namespace Sys2Proof.Machine

def exec (i : Instr) (s : State) : Host.Outcome State Fault Refusal :=
  match i with
  | .dsFault => Sys2Proof.Machine.execDsFault s
  | .dsSod => Sys2Proof.Machine.execDsSod s
  | .dsRtso => Sys2Proof.Machine.execDsRtso s
  | .dsSon => Sys2Proof.Machine.execDsSon s
  | .dsOpen => Sys2Proof.Machine.execDsOpen s
  | .dsNrdy => Sys2Proof.Machine.execDsNrdy s
  | .mpIdle => Sys2Proof.Machine.execMpIdle s
  | .mpAcc => Sys2Proof.Machine.execMpAcc s
  | .mpCru => Sys2Proof.Machine.execMpCru s
  | .mpDec => Sys2Proof.Machine.execMpDec s
  | .mpOrigin => Sys2Proof.Machine.execMpOrigin s
  | .mpAbort => Sys2Proof.Machine.execMpAbort s
  | .mpAdopt => Sys2Proof.Machine.execMpAdopt s
  | .mpVel => Sys2Proof.Machine.execMpVel s
  | .bsWait => Sys2Proof.Machine.execBsWait s
  | .bsReq => Sys2Proof.Machine.execBsReq s
  | .bsOp => Sys2Proof.Machine.execBsOp s
  | .bsErr => Sys2Proof.Machine.execBsErr s
  | .hcStart => Sys2Proof.Machine.execHcStart s
  | .hcStop => Sys2Proof.Machine.execHcStop s
  | .hcMoveAbs => Sys2Proof.Machine.execHcMoveAbs s
  | .hcMoveRel => Sys2Proof.Machine.execHcMoveRel s
  | .hcSetVel => Sys2Proof.Machine.execHcSetVel s

end Sys2Proof.Machine
end

