-- ==== Sys2Proof/Machine/Agents.lean ====
section
/-! DEFINITION. What each agent does in one step (00_scope.md R4): the core's next phase or operation
of its tick (42_cyclic_scheduler.md R142, 41_motion_profiler.md R117), a host access
(44_host_channel.md R170, R177, R178), the time base, reset; and whose turn it is. -/

namespace Sys2Proof.Machine

/-! ### The core -/

/-- The word the core decodes at this point of its tick, with its format (30_encoding.md R60): none
where it decodes none. -/
def State.selector (s : State) : Option (Format × Word) :=
  match s.phase with
  | .monitor => some (.bs, s.busState.code.setWidth 32)
  | .drive => some (.sw, s.statusWord.setWidth 32)
  | .profiler =>
    if s.mode = s.params.modePos ∧ s.cmdPending = false then some (.ms, s.motionState.code.setWidth 32)
    else none
  | .motion => some (.ms, s.motionState.code.setWidth 32)
  | .idle | .exchange | .outputs | .publish _ | .stopCheck => none

/-- The operation the core's next step runs, none where that step is no operation: the one its
selector word selects, or at the start of the profiler phase a triggered one (41 R117). In that phase
every `MODE` but `MODE_POS` is velocity mode, as R117's `else` reads. DEDUCED, safe: log 14. -/
def State.selectOp (s : State) : Option Instr :=
  match s.selector with
  | some (f, w) => (match decode f w with
    | .ok i => some i
    | .error _ => none)
  | none =>
    if s.phase = .profiler then
      if s.mode = s.params.modePos then some .mpAdopt else some .mpVel
    else none

/-- Where the tick goes on after operation `i`, in the state it left (42 R142, 41 R117). -/
def nextPhase (i : Instr) (was : Phase) (t : State) : Phase :=
  match was with
  | .monitor => if t.busState = .operational then .drive else .publish SnapReg.all
  | .drive => if t.driveOp then .profiler else .publish SnapReg.all
  | .profiler => if i = .mpAdopt then .motion else .outputs
  | .motion => .outputs
  | .idle => .idle
  | .exchange => .monitor
  | .outputs => .publish SnapReg.all
  | .publish l => .publish l
  | .stopCheck => .idle

/-- Run operation `i` and go on with the tick. -/
def runOp (i : Instr) (s : State) : Host.Outcome State Fault Refusal :=
  match exec i s with
  | .next t => .next { t with phase := nextPhase i s.phase t }
  | .fault f => .fault f
  | .refused r => .refused r

/-- A step of the tick that is no operation. Between ticks the core does nothing (42 R142). -/
def State.phaseStep (pick : Option SnapReg) (s : State) : State :=
  match s.phase with
  | .exchange => { s.exchange.wkcCheck with phase := .monitor }
  | .outputs => { s.profilerOutputs with phase := .publish SnapReg.all }
  | .publish [] => { s with phase := .stopCheck }
  | .publish (r :: rest) =>
    let k := nextSnap pick r rest
    let left := (r :: rest).filter fun x => x != k
    { s.storeSnap k with phase := if left = [] then .stopCheck else .publish left }
  | .stopCheck => { s.stopCheck with phase := .idle }
  | .idle | .monitor | .drive | .profiler | .motion => s

/-- One step of the core: the operation it selects, or the phase it is in. -/
def coreStep (pick : Option SnapReg) (s : State) : Host.Outcome State Fault Refusal :=
  match s.selectOp with
  | some i => runOp i s
  | none => .next (s.phaseStep pick)

/-! ### The host -/

/-- A write of `w` to `CTRL` (44_host_channel.md R170): the operation it selects, or for a reserved
opcode `RESULT <- E_BAD_OPCODE` "and nothing else" (R179). -/
def doorbell (w : Word) (s : State) : Host.Outcome State Fault Refusal :=
  match decode .hc w with
  | .ok i => exec i s
  | .error _ => .next (s.setResult .eBadOpcode)

/-- A host write to a register number (44_host_channel.md R170, R178; "numbers above 18: ignored"). -/
def hostWrite (n : Nat) (w : Word) (s : State) : Host.Outcome State Fault Refusal :=
  match HostReg.ofNumber n with
  | some .ctrl => doorbell w s
  | some r => .next (s.plainWrite r w)
  | none => .next s

/-- One host access (44_host_channel.md R170, R177, R178). -/
def access (a : Access) (s : State) : Host.Outcome State Fault Refusal :=
  match a with
  | .write n w => hostWrite n w s
  | .read n => .next (s.hostRead n)

/-! ### The time base and reset -/

/-- The time base reads `t`; it "never decreases" (42_cyclic_scheduler.md R140; log 7). -/
def advanceTime (t : Dword) (s : State) : Host.Outcome State Fault Refusal :=
  if t.toNat < s.now.toNat then .fault .timeBaseDecreased else .next { s with now := t }

/-- The one reset (70_reset_and_hazards.md R210). The parameters, the time base, the stimuli still to
come and the count of free values are none of the hardware's state and stay (logs 1, 5, 6, 8). -/
def State.resetNow (s : State) : State :=
  { State.reset with params := s.params, now := s.now, inputs := s.inputs, freeCount := s.freeCount }

/-! ### Whose turn it is -/

/-- A stimulus that is ordered after the tick in progress: every one that is not marked as falling
inside it, and a `CTRL` write in any case ("ordered before or after it", 20_memory.md R49;
00_scope.md R4). DESIGN CHOICE, safe: log 3. -/
def Stimulus.waits : Stimulus → Bool
  | .advance _ => true
  | .host _ => true
  | .hostInside (.write n _) => n == 0
  | .hostInside (.read _) => false
  | .reset => true
  | .tick _ => true
  | .core _ => false

/-- One stimulus takes effect. -/
def perform (x : Stimulus) (s : State) : Host.Outcome State Fault Refusal :=
  match x with
  | .advance t => advanceTime t s
  | .host a => access a s
  | .hostInside a => access a s
  | .reset => .next s.resetNow
  | .tick inp => if s.gateOpen then .next (s.beginTick inp) else .next s
  | .core pick => coreStep pick s

/-- One step of the machine: the next stimulus, or the core's next step while a tick is in progress
and the stimulus waits for its end or there is none. With no tick in progress and no stimulus nothing
moves. DESIGN CHOICE, safe: logs 1, 2, 3. -/
def turn (s : State) : Host.Outcome State Fault Refusal :=
  match s.inputs with
  | [] => coreStep none s
  | x :: rest =>
    if s.phase ≠ .idle ∧ x.waits = true then coreStep none s
    else perform x { s with inputs := rest }

/-! ### Placing a word for the host's question -/

/-- The word is in its format's place and the next step decodes it (log 12). -/
def State.placeWord (f : Format) (w : Nat) (s : State) : State :=
  match f with
  | .sw =>
    { s with
      runState := .running, busState := .operational, phase := .drive,
      pdoIn := s.pdoIn.storeLE (InField.offset .statusWord) (InField.size .statusWord) w,
      inputs := .core none :: s.inputs }
  | .ms =>
    { s with
      runState := .running, busState := .operational, driveOp := true, mode := s.params.modePos,
      phase := .motion, motionState := MotionState.ofCode (BitVec.ofNat 2 w),
      inputs := .core none :: s.inputs }
  | .bs =>
    { s with
      runState := .running, phase := .monitor, busState := BusState.ofCode (BitVec.ofNat 2 w),
      inputs := .core none :: s.inputs }
  | .hc => { s with phase := .idle, inputs := .host (.write 0 (BitVec.ofNat 32 w)) :: s.inputs }

end Sys2Proof.Machine
end

