-- ==== Sys2Proof/Machine/Step.lean ====
section
/-! DEFINITION. One step of the machine, and the placing of a table row's word where the next step
decodes it. -/

namespace Sys2Proof.Machine

/-- One step: one agent moves once (00_scope.md R4; logs 1 to 3). -/
def step (s : State) : Host.Outcome State Fault Refusal := turn s

/-- `s` with the word of a table row where the next step decodes it: format SW in
`PDO_IN.status_word` with the tick at phase 3, format MS in `motion_state` with the tick in the
profiler phase, format HC as the host's next write to `CTRL`. DESIGN CHOICE, safe: log 12. -/
def State.withFetchWord (s : State) (nbits w : Nat) : State :=
  match tableFormat nbits w with
  | some f => s.placeWord f w
  | none => s

end Sys2Proof.Machine
end

