-- ==== Sys2Proof/Safety.lean ====
section
/-! DEFINITION. The terms claims use: the invariants of 10_state.md R30 in a form every step keeps, the
count of requests on the collaborator's port (43_bus_state_monitor.md R166), a tick as one transition
(42_cyclic_scheduler.md R142), and who owns which state (44_host_channel.md R182). -/

namespace Sys2Proof.Machine

/-! ### Invariants -/

/-- What the pending command holds while one is pending (10_state.md R20, 44_host_channel.md R178,
R180): limits of at least 1 with bit 31 clear for a move, and a kind that agrees with `MODE`. -/
def State.PendingValid (s : State) : Prop :=
  match s.pendKind with
  | .velocity => s.mode = s.params.modeVel
  | .absolute | .relative =>
    s.mode = s.params.modePos ∧ 1 ≤ s.pendVmax.toNat ∧ s.pendVmax.toNat < 2 ^ 31 ∧
      1 ≤ s.pendAcc.toNat ∧ s.pendAcc.toNat < 2 ^ 31

/-- Every register that 10_state.md R30 item 6 lists holds its reset value: all but `MODE`,
`EXPECTED_WKC`, `CMD_*`, `ERRCODE`, `RESULT`, `shutdown` and the pending command. -/
def State.CoreAtReset (s : State) : Prop :=
  s = { State.reset with
    params := s.params, mode := s.mode, expectedWkc := s.expectedWkc, cmdTarget := s.cmdTarget,
    cmdVmax := s.cmdVmax, cmdAccel := s.cmdAccel, errcode := s.errcode, result := s.result,
    shutdown := s.shutdown, cmdPending := s.cmdPending, pendKind := s.pendKind,
    pendTarget := s.pendTarget, pendVmax := s.pendVmax, pendAcc := s.pendAcc,
    now := s.now, tickIn := s.tickIn, inputs := s.inputs, trace := s.trace,
    freeCount := s.freeCount }

/-- The invariant of the state: 10_state.md R30 items 1 to 6, the canonical form of the two records,
and what holds at each point of a tick (42 R142, 40 R80, 41 R100). -/
structure State.Inv (s : State) : Prop where
  /-- 00_scope.md R5 -/
  paramsLegal : s.params.legal = true
  /-- the output record is canonical and has no byte beyond its 17 -/
  outWf : Memory.wf outSize s.pdoOut = true
  /-- the input record is canonical and has no byte beyond its 23 -/
  inWf : Memory.wf inSize s.pdoIn = true
  /-- R30 item 1 -/
  disabledAtRest : s.driveOp = false → s.motionState = .idle ∧ s.velRef = 0 ∧ s.velActive = false
  /-- R30 item 2 -/
  idleAtRest : s.motionState = .idle → s.velRef = 0
  /-- R30 item 3 -/
  movingLimits : s.motionState ≠ .idle →
    1 ≤ s.acc.toNat ∧ s.acc.toNat < 2 ^ 31 ∧ 1 ≤ s.vmax.toNat ∧ s.mode = s.params.modePos
  /-- R30 item 4 -/
  errorShutsDown : s.busState = .error → s.shutdown = true
  /-- R30 item 5 -/
  notOperational : s.busState ≠ .operational → s.driveOp = false ∧ s.fault = false
  /-- R30 item 6 -/
  haltedAtReset : s.runState = .halted → s.CoreAtReset
  /-- 44_host_channel.md R178, R180 -/
  pendingValid : s.cmdPending = true → s.PendingValid
  /-- 44_host_channel.md R171: only a legal `MODE` starts the loop -/
  runningMode : s.runState = .running → s.modeLegal = true
  /-- 42_cyclic_scheduler.md R142: a tick is in progress only while Running -/
  tickRuns : s.phase ≠ .idle → s.runState = .running
  /-- 40_drive_state_machine.md R80 -/
  driveOperational : s.phase = .drive → s.busState = .operational
  /-- 41_motion_profiler.md R100 -/
  profilerEnabled : s.phase = .profiler ∨ s.phase = .motion ∨ s.phase = .outputs →
    s.busState = .operational ∧ s.driveOp = true
  /-- 41_motion_profiler.md R117 -/
  motionMode : s.phase = .motion → s.mode = s.params.modePos
  /-- 10_state.md R11: `vmax` is 0 to 2^31 - 1 -/
  vmaxRange : s.vmax.toNat < 2 ^ 31
  /-- 41_motion_profiler.md R102: `vel_ref` is within the largest `vmax * S1` -/
  velRange : (s.vel.natAbs : Int) ≤ 2147483647 * s.s1

/-- How often `request_state(t)` was emitted since reset. -/
def State.requests (t : BusTarget) (s : State) : Nat := s.trace.count (.request t)

/-- 43_bus_state_monitor.md R166 item 1 and 70_reset_and_hazards.md R213: `request_state(OP)` at most
once, not before BS.WAIT is left; `request_state(INIT)` once on every path into Stopped. -/
structure State.RequestsOnce (s : State) : Prop where
  opAtMostOnce : s.requests .op ≤ 1
  opNotWhileWaiting : s.busState = .waitingForClockSync → s.requests .op = 0
  initAtStop : s.requests .init = if s.runState = .stopped then 1 else 0

/-! ### A tick as one transition -/

/-- Go on after an outcome that has a next state. -/
def andThen (r : Host.Outcome State Fault Refusal) (f : State → Host.Outcome State Fault Refusal) :
    Host.Outcome State Fault Refusal :=
  match r with
  | .next s => f s
  | .fault e => .fault e
  | .refused e => .refused e

/-- The profiler phase (41_motion_profiler.md R117). -/
def profilerPhase (s : State) : Host.Outcome State Fault Refusal :=
  andThen
    (if s.mode = s.params.modePos then
      andThen (if s.cmdPending then exec .mpAdopt s else .next s) fun t => exec t.motionState.instr t
    else exec .mpVel s)
    fun t => .next t.profilerOutputs

/-- The drive state machine phase (40_drive_state_machine.md R80) and, while the drive is enabled,
the profiler phase (41_motion_profiler.md R100). -/
def drivePhase (s : State) : Host.Outcome State Fault Refusal :=
  if s.busState = .operational then
    andThen (exec (decodeSw s.statusWord) s) fun t => if t.driveOp then profilerPhase t else .next t
  else .next s

/-- The publish phase, all eight stores (44_host_channel.md R176). -/
def State.publishAll (s : State) : State := SnapReg.all.foldl (fun t r => t.storeSnap r) s

/-- A whole tick as the one transition of 42_cyclic_scheduler.md R142: phases 0 to 7 in order. -/
def wholeTick (inp : TickInput) (s : State) : Host.Outcome State Fault Refusal :=
  let a := (s.beginTick inp).exchange.wkcCheck
  andThen (exec a.busState.instr a) fun b =>
  andThen (drivePhase b) fun c =>
  .next { c.publishAll.stopCheck with phase := .idle }

/-! ### Ownership (44_host_channel.md R182) -/

/-- The registers only the host writes hold the same values in both states. -/
def SameHostOwned (s t : State) : Prop :=
  t.cmdTarget = s.cmdTarget ∧ t.cmdVmax = s.cmdVmax ∧ t.cmdAccel = s.cmdAccel ∧
  t.errcode = s.errcode ∧ t.mode = s.mode ∧ t.expectedWkc = s.expectedWkc ∧ t.result = s.result ∧
  t.pendKind = s.pendKind ∧ t.pendTarget = s.pendTarget ∧ t.pendVmax = s.pendVmax ∧
  t.pendAcc = s.pendAcc

/-- The registers only the core writes, and the input record, which only the collaborator writes,
hold the same values in both states. -/
def SameCoreOwned (s t : State) : Prop :=
  t.posRef = s.posRef ∧ t.velRef = s.velRef ∧ t.tgt = s.tgt ∧ t.vmax = s.vmax ∧ t.acc = s.acc ∧
  t.velCmd = s.velCmd ∧ t.motionState = s.motionState ∧ t.busState = s.busState ∧
  t.driveOp = s.driveOp ∧ t.fault = s.fault ∧ t.ack = s.ack ∧ t.velActive = s.velActive ∧
  t.wkcErrCount = s.wkcErrCount ∧ t.snapBusOp = s.snapBusOp ∧ t.snapDriveOp = s.snapDriveOp ∧
  t.snapFault = s.snapFault ∧ t.snapSw = s.snapSw ∧ t.snapCw = s.snapCw ∧ t.snapApos = s.snapApos ∧
  t.snapAvel = s.snapAvel ∧ t.snapMstate = s.snapMstate ∧ t.pdoIn = s.pdoIn

/-- Every register of 10_state.md and both records are the same; only the model's own fields (the
stimuli still to come, the time base, the outputs) may differ. -/
def SameMachine (s t : State) : Prop :=
  t = { s with now := t.now, inputs := t.inputs, trace := t.trace }

end Sys2Proof.Machine
end

