-- ==== Sys2Proof/Certificates/Slice0/Obligations.lean ====
section
/-! DEFINITION. The statements about the model. Each docstring names the rules it formalises. Values are
written out from the rules; the model's own functions appear only where a stored byte's place is
computed (`OutField.offset`), where a word is decoded, and where a register is read as an integer. -/

open Sys2Proof Sys2Proof.Machine

/-! ### Encodings (30_encoding.md) -/

/-- Decode and encode agree (30 R60, R62, R67, R68, R70): for every operation with a row, its word is
the row's match, and a word of the row's format decodes to it exactly when the word matches the row
and, for the last row of format SW, no earlier row; so every ignored bit is free. The operations
without a row have no word. -/
def Obligations.EveryWordOfARowDecodesToItsOperation : Prop :=
  (∀ i : Instr, i.hasSelector = false → encode i = none ∧ i.row = none) ∧
  ∀ (i : Instr) (f : Format) (mask m : Word), i.row = some (f, mask, m) →
    encode i = some (f, m) ∧
    ∀ w : Word, decode f w = .ok i ↔
      (w &&& mask = m ∧
        (i = .dsNrdy → ∀ (j : Instr) (mask' m' : Word), j ≠ .dsNrdy → j.row = some (.sw, mask', m') →
          w &&& mask' ≠ m'))

/-- 30 R64: at most one of the five patterned rows matches a word, the closed form of the decode, the
low byte decides, and the census of the 256 low bytes. -/
def Obligations.StatusDecodeClosedFormAndCensus : Prop :=
  (∀ (sw : Half) (p q : Half × Half),
    p ∈ [((0x0008 : Half), (0x0008 : Half)), (0x004F, 0x0040), (0x006F, 0x0021), (0x006F, 0x0023), (0x006F, 0x0027)] →
    q ∈ [((0x0008 : Half), (0x0008 : Half)), (0x004F, 0x0040), (0x006F, 0x0021), (0x006F, 0x0023), (0x006F, 0x0027)] →
    sw &&& p.1 = p.2 → sw &&& q.1 = q.2 → p = q) ∧
  (∀ sw : Half, decodeStatus sw =
    (let b := fun k => sw.getLsbD k
     if b 3 then .fault
     else if b 6 && !b 2 && !b 1 && !b 0 then .switchOnDisabled
     else if !b 6 && b 5 && !b 2 && !b 1 && b 0 then .readyToSwitchOn
     else if !b 6 && b 5 && !b 2 && b 1 && b 0 then .switchedOn
     else if !b 6 && b 5 && b 2 && b 1 && b 0 then .operationEnabled
     else .notReady)) ∧
  (∀ sw : Half, decodeStatus sw = decodeStatus (sw &&& 0x00FF)) ∧
  (let count := fun d => (List.range 256).countP fun n => decide (decodeStatus (BitVec.ofNat 16 n) = d)
   count .fault = 128 ∧ count .switchOnDisabled = 8 ∧ count .readyToSwitchOn = 4 ∧
     count .switchedOn = 4 ∧ count .operationEnabled = 4 ∧ count .notReady = 108)

/-- 30 R61: "two status words that differ only there decode alike" (bits 4, 7 and 15:8). -/
def Obligations.StatusDecodeIgnoresBits4And7AndHighByte : Prop :=
  ∀ a b : Half, a &&& 0x006F = b &&& 0x006F → decodeStatus a = decodeStatus b ∧ decodeSw a = decodeSw b

/-- 30 R70: `op = w[7:0]`, the five operations of the doorbell; R72: any other `op` is reserved. -/
def Obligations.DoorbellDecodesLowByte : Prop :=
  ∀ w : Word,
    (w.toNat % 256 = 0x01 → decode .hc w = .ok .hcStart) ∧
    (w.toNat % 256 = 0x02 → decode .hc w = .ok .hcStop) ∧
    (w.toNat % 256 = 0x10 → decode .hc w = .ok .hcMoveAbs) ∧
    (w.toNat % 256 = 0x11 → decode .hc w = .ok .hcMoveRel) ∧
    (w.toNat % 256 = 0x12 → decode .hc w = .ok .hcSetVel) ∧
    (w.toNat % 256 ∉ [0x01, 0x02, 0x10, 0x11, 0x12] →
      decode .hc w = .error (.reservedOpcode (BitVec.ofNat 8 (w.toNat % 256))))

/-- Words written out from the rows of 30 R62, R67, R68 and R70 (95 V-DS-1 to V-DS-5, V-DS-8, V-HC-13). -/
def Obligations.WordsFromTheTableDecode : Prop :=
  decode .sw 0x0218 = .ok .dsFault ∧ decode .sw 0x023F = .ok .dsFault ∧
  decode .sw 0x0250 = .ok .dsSod ∧ decode .sw 0x0231 = .ok .dsRtso ∧ decode .sw 0x0233 = .ok .dsSon ∧
  decode .sw 0x0237 = .ok .dsOpen ∧ decode .sw 0x0007 = .ok .dsNrdy ∧
  decode .ms 0x2 = .ok .mpCru ∧ decode .bs 0x1 = .ok .bsReq ∧ decode .hc 0xFFFFFF02 = .ok .hcStop

/-- The numeric codes of 30 R66 to R69 and R71, of 10 R20 and of 60 R190, and the operation each code of
formats MS and BS selects (30 R67, R68). -/
def Obligations.EnumerationCodes : Prop :=
  [DriveState.notReady, .switchOnDisabled, .readyToSwitchOn, .switchedOn, .operationEnabled,
    .fault].map DriveState.code = [0, 1, 2, 3, 4, 5] ∧
  [MotionState.idle, .accelerating, .cruising, .decelerating].map MotionState.code = [0, 1, 2, 3] ∧
  [BusState.waitingForClockSync, .requestingOperational, .operational, .error].map BusState.code =
    [0, 1, 2, 3] ∧
  [0, 1, 2, 3].map decodeMs = [Instr.mpIdle, .mpAcc, .mpCru, .mpDec] ∧
  [0, 1, 2, 3].map decodeBs = [Instr.bsWait, .bsReq, .bsOp, .bsErr] ∧
  [RunState.halted, .running, .stopped].map RunState.code = [0, 1, 2] ∧
  [PendKind.absolute, .relative, .velocity].map PendKind.code = [0, 1, 2] ∧
  [ResultCode.ok, .eInvalidCommand, .eBadOpcode, .eWrongState, .eWrongMode].map ResultCode.code =
    [0, 1, 2, 3, 4] ∧
  ∀ sw wkc, [Event.driveFault sw, .softCommFault wkc, .busError, .invalidCommand].map Event.code =
    [1, 2, 3, 4]

/-! ### Records (20_memory.md) -/

/-- 20 R43: little-endian; `MemRead` is the sum of byte[off+k] * 256^k, `MemWrite` stores
`(v >> 8k) & 0xFF` at `off + k` and nothing elsewhere. -/
def Obligations.RecordsAreLittleEndian : Prop :=
  ∀ (m : Memory) (off n v : Nat),
    m.loadLE off n = ((List.range n).map fun k => (m.read (off + k)).toNat * 256 ^ k).sum ∧
    (∀ k, k < n → ((m.storeLE off n v).read (off + k)).toNat = (v >>> (8 * k)) &&& 0xFF) ∧
    (∀ a, a < off ∨ off + n ≤ a → (m.storeLE off n v).read a = m.read a) ∧
    (m.storeLE off n v).loadLE off n = v % 2 ^ (8 * n)

/-- 20 R41, R42: offsets and widths of the fields, packed without padding, 17 and 23 bytes in all. -/
def Obligations.RecordLayouts : Prop :=
  [OutField.controlWord, .targetPosition, .targetVelocity, .targetTorque, .modeOfOperation,
    .velocityOffset].map (fun f => (OutField.offset f, OutField.size f)) =
      [(0, 2), (2, 4), (6, 4), (10, 2), (12, 1), (13, 4)] ∧
  [InField.statusWord, .actualPosition, .actualVelocity, .actualTorque, .followingError, .modeDisplay,
    .touchProbeStatus, .touchProbePosition].map (fun f => (InField.offset f, InField.size f)) =
      [(0, 2), (2, 4), (6, 4), (10, 2), (12, 4), (16, 1), (17, 2), (19, 4)] ∧
  outSize = 17 ∧ inSize = 23

/-- Both records keep their canonical form, with no byte beyond the 17 and 23 of 20 R40: an invariant of
every step. (The canonical form is the model's own: log 15.) -/
def Obligations.EveryStepKeepsRecordsCanonical : Prop :=
  ∀ s t : State, step s = .next t →
    s.pdoOut.wf outSize = true → s.pdoIn.wf inSize = true →
    t.pdoOut.wf outSize = true ∧ t.pdoIn.wf inSize = true

/-! ### Reset (10_state.md R31, 70_reset_and_hazards.md R210) -/

/-- 10 R31: after reset every register and every byte of both records is zero, with the states and flags
that zero encodes, and START is refused because `MODE = 0` is no legal mode. -/
def Obligations.ResetLeavesEverythingZero : Prop :=
  let s := State.reset
  (s.posRef = 0 ∧ s.velRef = 0 ∧ s.tgt = 0 ∧ s.vmax = 0 ∧ s.acc = 0 ∧ s.velCmd = 0) ∧
  (s.runState = .halted ∧ s.busState = .waitingForClockSync ∧ s.motionState = .idle) ∧
  (s.driveOp = false ∧ s.fault = false ∧ s.shutdown = false ∧ s.ack = false ∧ s.cmdPending = false ∧
    s.velActive = false) ∧
  (s.nextWake = 0 ∧ s.wkcErrCount = 0) ∧
  (s.pendKind = .absolute ∧ s.pendTarget = 0 ∧ s.pendVmax = 0 ∧ s.pendAcc = 0) ∧
  (s.mode = 0 ∧ s.expectedWkc = 0) ∧
  (∀ n, s.hostValue n = 0) ∧
  (∀ a, s.pdoOut.read a = 0 ∧ s.pdoIn.read a = 0) ∧
  exec .hcStart s = .next { s with result := 3 }

/-- 70 R210: reset is a step of its own, between ticks; it puts the machine into the reset state from
any state and emits nothing. That the parameters, the time base and the stimuli still to come stay is
the model's choice (logs 1, 6, 8). -/
def Obligations.ResetStepGivesResetState : Prop :=
  ∀ (s : State) (rest : List Stimulus), s.phase = .idle → s.inputs = .reset :: rest →
    step s = .next { State.reset with
      params := s.params, now := s.now, inputs := rest, freeCount := s.freeCount }

/-- The invariant of 10 R30 holds at reset. -/
def Obligations.InvariantHoldsAtReset : Prop :=
  State.reset.Inv ∧ State.reset.RequestsOnce

/-! ### Drive State Machine (40_drive_state_machine.md) -/

/-- 40 R82 to R85, R87, R88, R90: the five not-enabled operations complete in every state; each writes
its control word, slaves the target position to the actual position, clears the target velocity,
clears `drive_op`, aborts a move if the drive was enabled, writes `fault`, and DS.FAULT raises
DriveFault. Everything else, and every byte of `PDO_OUT` outside the three fields, is unchanged. -/
def Obligations.NotEnabledOperations : Prop :=
  ∀ (i : Instr) (cw : Half) (flt : Bool),
    (i, cw, flt) ∈ [(Instr.dsFault, (0x0080 : Half), true), (.dsSod, 0x0006, false),
      (.dsRtso, 0x0007, false), (.dsSon, 0x000F, false), (.dsNrdy, 0x0000, false)] →
    ∀ s : State, ∃ t, exec i s = .next t ∧
      t = { s with
        fault := flt, driveOp := false,
        motionState := if s.driveOp then .idle else s.motionState,
        velRef := if s.driveOp then 0 else s.velRef,
        velActive := if s.driveOp then false else s.velActive,
        trace := if i = .dsFault then .event (.driveFault s.statusWord) :: s.trace else s.trace,
        pdoOut := t.pdoOut } ∧
      t.readOut .controlWord = cw.toNat ∧
      t.readOut .targetPosition = s.readIn .actualPosition ∧
      t.readOut .targetVelocity = 0 ∧
      ∀ a, (∀ f ∈ [OutField.controlWord, .targetPosition, .targetVelocity],
          a < OutField.offset f ∨ OutField.offset f + OutField.size f ≤ a) →
        t.pdoOut.read a = s.pdoOut.read a

/-- 40 R86, R89, R90: DS.OPEN completes in every state; on a rising edge of `drive_op` it takes the
origin, `pos_ref <- s32(actual_position) * S2`; it writes no field of `PDO_OUT`. -/
def Obligations.DsOpenTakesTheOriginOnARisingEdge : Prop :=
  ∀ s : State, s.params.legal = true → ∃ t, exec .dsOpen s = .next t ∧
    t = { s with fault := false, driveOp := true, posRef := t.posRef } ∧
    (s.driveOp = false → t.posRef.toInt =
      s.actualPosition.toInt * ((s.params.tickHz : Int) * (s.params.tickHz : Int))) ∧
    (s.driveOp = true → t.posRef = s.posRef)

/-- 40 R80, R81, R90, 30 R65: the Drive State Machine phase completes; it writes `fault` and `drive_op`
from the decoded state and the table's control word, and the profiler phase follows exactly when the
drive is enabled. -/
def Obligations.DrivePhaseWritesFlagsAndControlWord : Prop :=
  ∀ (s : State) (pick : Option SnapReg), s.phase = .drive → ∃ t, coreStep pick s = .next t ∧
    t.fault = decide (decodeStatus s.statusWord = .fault) ∧
    t.driveOp = decide (decodeStatus s.statusWord = .operationEnabled) ∧
    (decodeStatus s.statusWord = .fault → t.readOut .controlWord = 0x0080) ∧
    (decodeStatus s.statusWord = .switchOnDisabled → t.readOut .controlWord = 0x0006) ∧
    (decodeStatus s.statusWord = .readyToSwitchOn → t.readOut .controlWord = 0x0007) ∧
    (decodeStatus s.statusWord = .switchedOn → t.readOut .controlWord = 0x000F) ∧
    (decodeStatus s.statusWord = .notReady → t.readOut .controlWord = 0x0000) ∧
    (decodeStatus s.statusWord = .operationEnabled → t.pdoOut = s.pdoOut ∧ t.phase = .profiler) ∧
    (decodeStatus s.statusWord ≠ .operationEnabled → t.phase = .publish SnapReg.all)

/-- 40 R92 (Scenario C): fault and drive-operational are never set together; kept by every step. -/
def Obligations.FaultExcludesDriveOperational : Prop :=
  ∀ s t : State, step s = .next t → ¬ (s.fault = true ∧ s.driveOp = true) →
    ¬ (t.fault = true ∧ t.driveOp = true)

/-- 40 R92: every whole tick with the bus Operational after its bus-monitor phase, whose record shows the
fault bit, ends with control word 0x0080, `fault` set and `drive_op` clear, whether or not the drive was
enabled before; and the target is held at the actual position (40 R88). -/
def Obligations.FaultBitHoldsFaultReset : Prop :=
  ∀ (s t : State) (inp : TickInput),
    (s.busState = .operational ∨
      (s.busState = .requestingOperational ∧ inp.busIsErr = false ∧ inp.busIsOp = true)) →
    inp.record.statusWord.getLsbD 3 = true → wholeTick inp s = .next t →
    t.readOut .controlWord = 0x0080 ∧ t.fault = true ∧ t.driveOp = false ∧
    t.readOut .targetPosition = inp.record.actualPosition.toNat ∧ t.readOut .targetVelocity = 0 ∧
    t.snapCw = 0x0080 ∧ t.snapFault = 1

/-- 40 R80, 43 R161: when the bus is not Operational after the bus-monitor phase, the tick goes to the
publish phase and `drive_op`, `fault` and every field of `PDO_OUT` keep their values; else the Drive
State Machine follows. -/
def Obligations.DrivePhaseRunsOnlyWhenOperational : Prop :=
  ∀ (s : State) (pick : Option SnapReg), s.phase = .monitor → ∃ t, coreStep pick s = .next t ∧
    t.driveOp = s.driveOp ∧ t.fault = s.fault ∧ t.pdoOut = s.pdoOut ∧
    (t.busState = .operational → t.phase = .drive) ∧
    (t.busState ≠ .operational → t.phase = .publish SnapReg.all)

/-! ### Motion Profiler (41_motion_profiler.md) -/

/-- 40 R89: MP.ORIGIN completes in every state; the product is exact. -/
def Obligations.MpOriginSetsThePosition : Prop :=
  ∀ s : State, s.params.legal = true → ∃ t, exec .mpOrigin s = .next t ∧
    t = { s with posRef := t.posRef } ∧
    t.posRef.toInt = s.actualPosition.toInt * ((s.params.tickHz : Int) * (s.params.tickHz : Int)) ∧
    t.posRef.toInt.natAbs < 2 ^ 58

/-- 41 R112: MP.ABORT completes in every state and writes three registers. -/
def Obligations.MpAbortForgetsTheMove : Prop :=
  ∀ s : State, exec .mpAbort s = .next { s with motionState := .idle, velRef := 0, velActive := false }

/-- 41 R103: MP.ADOPT completes in every state; a relative target is measured from the commanded
position in counts, both sums saturated to 32 bits; `vel_ref` and `pos_ref` are not changed. -/
def Obligations.MpAdoptTakesThePendingCommand : Prop :=
  ∀ s : State, ∃ t, exec .mpAdopt s = .next t ∧
    t = { s with
      tgt := t.tgt, vmax := s.pendVmax, acc := s.pendAcc, motionState := .accelerating,
      cmdPending := false, ack := !s.ack } ∧
    (s.pendKind ≠ .relative → t.tgt = s.pendTarget) ∧
    (s.pendKind = .relative →
      let counts := s.posRef.toInt / ((s.params.tickHz : Int) * (s.params.tickHz : Int))
      let base := max (-2147483648) (min 2147483647 counts)
      t.tgt.toInt = max (-2147483648) (min 2147483647 (base + s.pendTarget.toInt)))

/-- 41 R104, R105, R106, R110: MP.ACC completes in every state with legal parameters; the deceleration
test comes first, then the velocity limit; the position is advanced by the new velocity. -/
def Obligations.MpAccRampsUp : Prop :=
  ∀ s : State, s.params.legal = true → ∃ t, exec .mpAcc s = .next t ∧
    t = { s with motionState := t.motionState, velRef := t.velRef, posRef := t.posRef } ∧
    (let D : Int := s.tgt.toInt * ((s.params.tickHz : Int) * (s.params.tickHz : Int)) - s.posRef.toInt
     let V : Int := s.velRef.toInt
     let a : Int := (s.acc.toNat : Int)
     let L : Int := (s.vmax.toNat : Int) * (s.params.tickHz : Int)
     (if 2 * a * (D.natAbs : Int) ≤ V * V then
        t.motionState = .decelerating ∧ t.velRef.toInt = (if 0 ≤ D then max (V - a) 0 else min (V + a) 0)
      else if L ≤ (V.natAbs : Int) then
        t.motionState = .cruising ∧ t.velRef.toInt = (if 0 ≤ D then L else -L)
      else
        t.motionState = s.motionState ∧
          t.velRef.toInt = (if 0 ≤ D then min (V + a) L else max (V - a) (-L)))) ∧
    t.posRef.toInt = max (-9223372036854775808) (min 9223372036854775807
      (s.posRef.toInt + t.velRef.toInt))

/-- 41 R104, R105, R107, R110: MP.CRU completes in every state with legal parameters. -/
def Obligations.MpCruHoldsTheLimit : Prop :=
  ∀ s : State, s.params.legal = true → ∃ t, exec .mpCru s = .next t ∧
    t = { s with motionState := t.motionState, velRef := t.velRef, posRef := t.posRef } ∧
    (let D : Int := s.tgt.toInt * ((s.params.tickHz : Int) * (s.params.tickHz : Int)) - s.posRef.toInt
     let V : Int := s.velRef.toInt
     let a : Int := (s.acc.toNat : Int)
     let L : Int := (s.vmax.toNat : Int) * (s.params.tickHz : Int)
     (if 2 * a * (D.natAbs : Int) ≤ V * V then
        t.motionState = .decelerating ∧ t.velRef.toInt = (if 0 ≤ D then max (V - a) 0 else min (V + a) 0)
      else t.motionState = s.motionState ∧ t.velRef.toInt = (if 0 ≤ D then L else -L))) ∧
    t.posRef.toInt = max (-9223372036854775808) (min 9223372036854775807
      (s.posRef.toInt + t.velRef.toInt))

/-- 41 R108 with R104, R105, R110: MP.DEC completes in every state with legal parameters; on arrival it
snaps to Idle, velocity 0 and exactly the target, else it ramps down. -/
def Obligations.MpDecRampsDownOrArrives : Prop :=
  ∀ s : State, s.params.legal = true → ∃ t, exec .mpDec s = .next t ∧
    t = { s with motionState := t.motionState, velRef := t.velRef, posRef := t.posRef } ∧
    (let S2 : Int := (s.params.tickHz : Int) * (s.params.tickHz : Int)
     let D : Int := s.tgt.toInt * S2 - s.posRef.toInt
     let d : Int := if 0 ≤ D then 1 else -1
     let V : Int := s.velRef.toInt
     let a : Int := (s.acc.toNat : Int)
     if d * V ≤ 0 ∨ (D.natAbs : Int) < (s.params.posTol : Int) * S2 ∨ V.sign * D < 0 then
       t.motionState = .idle ∧ t.velRef = 0 ∧ t.posRef.toInt = s.tgt.toInt * S2
     else
       t.motionState = s.motionState ∧
       t.velRef.toInt = (if 0 ≤ D then max (V - a) 0 else min (V + a) 0) ∧
       t.posRef.toInt = max (-9223372036854775808) (min 9223372036854775807
         (s.posRef.toInt + t.velRef.toInt)))

/-- 41 R109: MP.IDLE completes in every state and changes nothing. -/
def Obligations.MpIdleChangesNothing : Prop :=
  ∀ s : State, exec .mpIdle s = .next s

/-- 41 R113: MP.VEL completes in every state; a pending velocity is adopted and goes to the drive
unramped, 0 while none was adopted; the target position follows the actual position. -/
def Obligations.MpVelPassesTheVelocityThrough : Prop :=
  ∀ s : State, ∃ t, exec .mpVel s = .next t ∧
    t = { s with
      velCmd := if s.cmdPending then s.pendTarget else s.velCmd,
      velActive := if s.cmdPending then true else s.velActive,
      cmdPending := false, pdoOut := t.pdoOut } ∧
    t.readOut .targetVelocity =
      (if s.cmdPending then s.pendTarget.toNat else if s.velActive then s.velCmd.toNat else 0) ∧
    t.readOut .targetPosition = s.readIn .actualPosition ∧
    ∀ a, (∀ f ∈ [OutField.targetPosition, .targetVelocity],
        a < OutField.offset f ∨ OutField.offset f + OutField.size f ≤ a) →
      t.pdoOut.read a = s.pdoOut.read a

/-- 41 R105: "Each procedure leaves `abs(vel_ref) <= max(abs(old vel_ref), vmax * S1)`", for the three
operations that ramp. -/
def Obligations.RampNeverExceedsOldSpeedOrLimit : Prop :=
  ∀ (i : Instr) (s t : State), i ∈ [Instr.mpAcc, .mpCru, .mpDec] → s.params.legal = true →
    exec i s = .next t →
    (t.velRef.toInt.natAbs : Int) ≤
      max (s.velRef.toInt.natAbs : Int) ((s.vmax.toNat : Int) * (s.params.tickHz : Int))

/-- 41 R107: when `vmax * S1 >= 2 * acc`, a cruising step at full speed cannot jump over the target. -/
def Obligations.CruisingCannotStepOverTheTarget : Prop :=
  ∀ s t : State, s.params.legal = true → 1 ≤ s.acc.toNat →
    2 * (s.acc.toNat : Int) ≤ (s.vmax.toNat : Int) * (s.params.tickHz : Int) →
    (s.velRef.toInt.natAbs : Int) = (s.vmax.toNat : Int) * (s.params.tickHz : Int) →
    exec .mpCru s = .next t → t.motionState = .cruising → s.motionState = .cruising →
    (0 < s.distance → 0 < t.distance) ∧ (s.distance < 0 → t.distance < 0) ∧ s.distance ≠ 0

/-- 41 R108 corner (a): from Decelerating, MP.DEC arrives after at most
`ceil(abs(vel_ref) / acc) + 1` of its own ticks, at exactly the target with velocity 0. -/
def Obligations.DeceleratingArrivesInBoundedTicks : Prop :=
  ∀ s : State, s.params.legal = true → 1 ≤ s.acc.toNat → s.motionState = .decelerating →
    ∃ (k : Nat) (run : Nat → State),
      1 ≤ k ∧ k ≤ (s.velRef.toInt.natAbs + s.acc.toNat - 1) / s.acc.toNat + 1 ∧ run 0 = s ∧
      (∀ j, j < k → (run j).motionState = .decelerating ∧ exec .mpDec (run j) = .next (run (j + 1))) ∧
      (run k).motionState = .idle ∧ (run k).velRef = 0 ∧
      (run k).posRef.toInt = s.tgt.toInt * ((s.params.tickHz : Int) * (s.params.tickHz : Int))

/-- 41 R111, R114, 30 R65: the end of the profiler phase completes; in position mode it writes the
floored and saturated position and target velocity 0, in both modes the enabled control word. -/
def Obligations.EnabledOutputs : Prop :=
  ∀ (s : State) (pick : Option SnapReg), s.phase = .outputs → ∃ t, coreStep pick s = .next t ∧
    t = { s with pdoOut := t.pdoOut, phase := .publish SnapReg.all } ∧
    t.readOut .controlWord =
      (if s.ack then (0x000F ||| s.params.ackMask : Half) else (0x000F : Half)).toNat ∧
    (s.mode = s.params.modePos →
      (BitVec.ofNat 32 (t.readOut .targetPosition)).toInt =
        max (-2147483648) (min 2147483647
          (s.posRef.toInt / ((s.params.tickHz : Int) * (s.params.tickHz : Int)))) ∧
      t.readOut .targetVelocity = 0) ∧
    (∀ a, (∀ f ∈ (if s.mode = s.params.modePos then
          [OutField.controlWord, .targetPosition, .targetVelocity] else [.controlWord]),
        a < OutField.offset f ∨ OutField.offset f + OutField.size f ≤ a) →
      t.pdoOut.read a = s.pdoOut.read a)

/-- 70 R221, second half: on the tick OperationEnabled is first observed, in position mode with nothing
pending, the drive and profiler phases leave exactly the actual position as output, target velocity 0
and the enabled control word (41 R114). -/
def Obligations.FirstEnabledTickCommandsTheActualPosition : Prop :=
  ∀ s : State, s.params.legal = true → s.phase = .drive → s.inputs = [] →
    s.driveOp = false → s.motionState = .idle → s.mode = s.params.modePos → s.cmdPending = false →
    decodeStatus s.statusWord = .operationEnabled →
    ∃ t, Host.Core.run core 3 s = .next t ∧ t.driveOp = true ∧ t.motionState = .idle ∧
      t.readOut .targetPosition = s.readIn .actualPosition ∧ t.readOut .targetVelocity = 0 ∧
      t.readOut .controlWord =
        (if s.ack then (0x000F ||| s.params.ackMask : Half) else (0x000F : Half)).toNat

/-- 41 R115 (monotonic transitions), 10 R13: the only changes of `motion_state` a step can make; in
particular Decelerating is left for Accelerating only by adopting a command. -/
def Obligations.MotionStateTransitions : Prop :=
  ∀ s t : State, step s = .next t → t.motionState ≠ s.motionState →
    (s.motionState = .accelerating ∧ t.motionState = .cruising) ∨
    (s.motionState = .accelerating ∧ t.motionState = .decelerating) ∨
    (s.motionState = .cruising ∧ t.motionState = .decelerating) ∨
    (s.motionState = .decelerating ∧ t.motionState = .idle) ∨
    (t.motionState = .accelerating ∧ s.cmdPending = true ∧ t.cmdPending = false ∧ t.ack = !s.ack) ∨
    (t.motionState = .idle ∧ t.driveOp = false)

/-! ### Bus State Monitor (43_bus_state_monitor.md) -/

/-- 43 R162: BS.WAIT completes in every state. -/
def Obligations.BsWaitRequestsOrFails : Prop :=
  ∀ s : State, exec .bsWait s = .next
    (if s.tickIn.busIsErr then
      { s with busState := .error, shutdown := true, trace := .event .busError :: s.trace }
    else if s.tickIn.dcSynced then
      { s with busState := .requestingOperational, trace := .request .op :: s.trace }
    else s)

/-- 43 R163: BS.REQ completes in every state. -/
def Obligations.BsReqPollsOrFails : Prop :=
  ∀ s : State, exec .bsReq s = .next
    (if s.tickIn.busIsErr then
      { s with busState := .error, shutdown := true, trace := .event .busError :: s.trace }
    else if s.tickIn.busIsOp then { s with busState := .operational }
    else s)

/-- 43 R164, R165: BS.OP and BS.ERR complete in every state and change nothing. -/
def Obligations.BsOpAndBsErrChangeNothing : Prop :=
  ∀ s : State, exec .bsOp s = .next s ∧ exec .bsErr s = .next s

/-- 60 R193, 43 R166 item 2 (Scenario D): a whole tick that samples `bus_is_err` before Operational ends
with `bus_state` Error, `shutdown` set and the loop Stopped; the Drive State Machine and profiler
phases do not run
(`drive_op`, `fault` and `PDO_OUT` are unchanged), the publish phase runs, BusError is raised,
`request_state(INIT)` is emitted, and no `request_state(OP)`. -/
def Obligations.BusErrorStopsTheLoopInItsTick : Prop :=
  ∀ (s : State) (inp : TickInput),
    s.busState = .waitingForClockSync ∨ s.busState = .requestingOperational → inp.busIsErr = true →
    ∃ t, wholeTick inp s = .next t ∧
      t.busState = .error ∧ t.shutdown = true ∧ t.runState = .stopped ∧
      t.driveOp = s.driveOp ∧ t.fault = s.fault ∧ t.pdoOut = s.pdoOut ∧ t.motionState = s.motionState ∧
      t.snapBusOp = 0 ∧ t.snapSw = inp.record.statusWord.setWidth 32 ∧
      t.trace = .request .init :: .event .busError ::
        .sent ((List.range 17).map fun a => s.pdoOut.read a) :: s.trace

/-- 43 R166, first sentence: the transition graph of `bus_state`; only reset leads back. -/
def Obligations.BusStateGraph : Prop :=
  ∀ s t : State, step s = .next t → t.busState ≠ s.busState →
    (s.busState = .waitingForClockSync ∧ t.busState = .requestingOperational) ∨
    (s.busState = .waitingForClockSync ∧ t.busState = .error ∧ t.shutdown = true) ∨
    (s.busState = .requestingOperational ∧ t.busState = .operational) ∨
    (s.busState = .requestingOperational ∧ t.busState = .error ∧ t.shutdown = true) ∨
    (t.busState = .waitingForClockSync ∧ ∃ rest, s.inputs = .reset :: rest)

/-- 43 R166 item 1, 70 R213: between two resets `request_state(OP)` is emitted at most once and
`request_state(INIT)` exactly when the loop has stopped, once; kept by every step. -/
def Obligations.EveryStepKeepsRequestsOnce : Prop :=
  ∀ s t : State, s.Inv → s.RequestsOnce → step s = .next t → t.RequestsOnce

/-! ### Host channel (44_host_channel.md) -/

/-- 44 R171: HC.START is refused with E_WRONG_STATE and nothing else, or completes: mode byte, wake time
one period after `now` (where the sum is within 64 bits), Running, or Stopped with
`request_state(INIT)` if `shutdown` is set. -/
def Obligations.HcStartStartsTheLoop : Prop :=
  ∀ s : State,
    ((s.runState ≠ .halted ∨ (s.mode ≠ s.params.modePos ∧ s.mode ≠ s.params.modeVel)) →
      exec .hcStart s = .next { s with result := 3 }) ∧
    (s.runState = .halted → (s.mode = s.params.modePos ∨ s.mode = s.params.modeVel) →
      ∃ t, exec .hcStart s = .next t ∧
        t = { s with
          pdoOut := t.pdoOut, nextWake := t.nextWake, freeCount := t.freeCount,
          runState := if s.shutdown then .stopped else .running,
          trace := if s.shutdown then .request .init :: s.trace else s.trace, result := 0 } ∧
        t.readOut .modeOfOperation = s.mode.toNat ∧
        (∀ a, a < OutField.offset .modeOfOperation ∨
            OutField.offset .modeOfOperation + OutField.size .modeOfOperation ≤ a →
          t.pdoOut.read a = s.pdoOut.read a) ∧
        (s.now.toNat + 1000000000 / s.params.tickHz < 2 ^ 64 →
          t.nextWake.toNat = s.now.toNat + 1000000000 / s.params.tickHz ∧ t.freeCount = s.freeCount))

/-- 44 R172: HC.STOP completes in every state. -/
def Obligations.HcStopSetsShutdown : Prop :=
  ∀ s : State, exec .hcStop s = .next { s with shutdown := true, result := 0 }

/-- 44 R173, R174, R180, 60 R195: HC.MOVE_ABS and HC.MOVE_REL, in every state: the checks in their
order, each refusal writing `RESULT` only (InvalidCommand raised on the validation), else the command
is pending. -/
def Obligations.HcMovesSubmitOrRefuse : Prop :=
  ∀ (i : Instr) (k : PendKind), (i, k) ∈ [(Instr.hcMoveAbs, PendKind.absolute), (.hcMoveRel, .relative)] →
    ∀ s : State, exec i s = .next
      (if s.runState = .stopped then { s with result := 3 }
      else if s.mode ≠ s.params.modePos then { s with result := 4 }
      else if ¬ ((1 ≤ s.cmdVmax.toInt ∧ s.cmdVmax.toInt ≤ 2147483647) ∧
          (1 ≤ s.cmdAccel.toInt ∧ s.cmdAccel.toInt ≤ 2147483647)) then
        { s with result := 1, trace := .event .invalidCommand :: s.trace }
      else
        { s with
          pendKind := k, pendTarget := s.cmdTarget, pendVmax := s.cmdVmax, pendAcc := s.cmdAccel,
          cmdPending := true, result := 0 })

/-- 44 R175: HC.SET_VEL, in every state. -/
def Obligations.HcSetVelSubmitsOrRefuses : Prop :=
  ∀ s : State, exec .hcSetVel s = .next
    (if s.runState = .stopped then { s with result := 3 }
    else if s.mode ≠ s.params.modeVel then { s with result := 4 }
    else { s with pendKind := .velocity, pendTarget := s.cmdTarget, cmdPending := true, result := 0 })

/-- 44 R179: a `CTRL` write with a reserved opcode does `RESULT <- E_BAD_OPCODE` and nothing else. -/
def Obligations.ReservedDoorbellWritesResultOnly : Prop :=
  ∀ (s : State) (w : Word), w.toNat % 256 ∉ [0x01, 0x02, 0x10, 0x11, 0x12] →
    access (.write 0 w) s = .next { s with result := 2 } ∧
    ∀ rest : List Stimulus, s.phase = .idle → s.inputs = .host (.write 0 w) :: rest →
      step s = .next { s with inputs := rest, result := 2 }

/-- 44 R178: plain register writes, at any register number but 0. -/
def Obligations.PlainWritesStoreOrAreIgnored : Prop :=
  ∀ (s : State) (n : Nat) (w : Word) (rest : List Stimulus), n ≠ 0 →
    s.inputs = .hostInside (.write n w) :: rest ∨
      (s.phase = .idle ∧ s.inputs = .host (.write n w) :: rest) →
    step s = .next
      (if n = 2 then
        if s.runState = .halted then
          { s with inputs := rest, mode := w.setWidth 8, cmdPending := false }
        else { s with inputs := rest }
      else if n = 3 then
        if s.runState = .halted then { s with inputs := rest, expectedWkc := w }
        else { s with inputs := rest }
      else if n = 4 then { s with inputs := rest, cmdTarget := w }
      else if n = 5 then { s with inputs := rest, cmdVmax := w }
      else if n = 6 then { s with inputs := rest, cmdAccel := w }
      else if n = 7 then { s with inputs := rest, errcode := w }
      else { s with inputs := rest })

/-- 44 R177, 10 R27, 20 R47: a host read at any time, inside a tick or between ticks, returns the
register's value, 0 for `CTRL` and above 18, and has no other effect. -/
def Obligations.HostReadsReturnRegistersWithoutEffect : Prop :=
  ∀ (s : State) (n : Nat) (rest : List Stimulus),
    s.inputs = .hostInside (.read n) :: rest ∨ (s.phase = .idle ∧ s.inputs = .host (.read n) :: rest) →
    ∃ v : Word, step s = .next { s with inputs := rest, trace := .readBack n v :: s.trace } ∧
      v = (match n with
        | 1 => s.result
        | 2 => BitVec.ofInt 32 s.mode.toInt
        | 3 => s.expectedWkc
        | 4 => s.cmdTarget
        | 5 => s.cmdVmax
        | 6 => s.cmdAccel
        | 7 => s.errcode
        | 8 => s.snapBusOp
        | 9 => s.snapDriveOp
        | 10 => s.snapFault
        | 11 => s.snapSw
        | 12 => s.snapCw
        | 13 => s.snapApos
        | 14 => s.snapAvel
        | 15 => s.snapMstate
        | 16 => if s.shutdown then 1 else 0
        | 17 => if s.runState = .halted then 0 else if s.runState = .running then 1 else 2
        | 18 => s.wkcErrCount
        | _ => 0)

/-- 44 R176, 20 R48: the publish phase stores the eight snapshot registers, whatever the order the
schedule picks; nothing else changes. -/
def Obligations.PublishStoresTheSnapshotInAnyOrder : Prop :=
  ∀ (s : State) (picks : List (Option SnapReg)), s.phase = .publish SnapReg.all → picks.length = 8 →
    picks.foldl (fun r p => andThen r (coreStep p)) (.next s) = .next
      { s with
        snapBusOp := if s.busState = .operational then 1 else 0,
        snapDriveOp := if s.driveOp then 1 else 0,
        snapFault := if s.fault then 1 else 0,
        snapSw := BitVec.ofNat 32 (s.readIn .statusWord),
        snapCw := BitVec.ofNat 32 (s.readOut .controlWord),
        snapApos := BitVec.ofNat 32 (s.readIn .actualPosition),
        snapAvel := BitVec.ofNat 32 (s.readIn .actualVelocity),
        snapMstate := s.motionState.code.setWidth 32,
        phase := .stopCheck }

/-! ### Cyclic Scheduler (42_cyclic_scheduler.md) -/

/-- 42 R142, R145: with the gate closed nothing changes; with it open the wake time advances by one
period from its previous value and the tick begins. -/
def Obligations.GateOpensATickOrNothing : Prop :=
  ∀ (s : State) (inp : TickInput) (rest : List Stimulus), s.phase = .idle →
    s.inputs = .tick inp :: rest →
    (¬ (s.runState = .running ∧ s.nextWake.toNat ≤ s.now.toNat) →
      step s = .next { s with inputs := rest }) ∧
    (s.runState = .running → s.nextWake.toNat ≤ s.now.toNat →
      ∃ t, step s = .next t ∧
        t = { s with
          inputs := rest, tickIn := inp, phase := .exchange, nextWake := t.nextWake,
          freeCount := t.freeCount } ∧
        (s.nextWake.toNat + 1000000000 / s.params.tickHz < 2 ^ 64 →
          t.nextWake.toNat = s.nextWake.toNat + 1000000000 / s.params.tickHz ∧
            t.freeCount = s.freeCount))

/-- 42 R143, R144, 60 R192: the exchange sends the 17 bytes of `PDO_OUT` as they are and replaces all of
`PDO_IN`; then a shortfall on a bus that was already Operational is counted, saturating, and raised. -/
def Obligations.ExchangeSendsReceivesAndChecks : Prop :=
  ∀ (s : State) (pick : Option SnapReg), s.phase = .exchange → ∃ t, coreStep pick s = .next t ∧
    (let short := s.busState = .operational ∧ s.tickIn.wkc.toInt < s.expectedWkc.toInt
     t = { s with
      pdoIn := t.pdoIn, phase := .monitor,
      wkcErrCount := t.wkcErrCount,
      trace := if short then
          .event (.softCommFault s.tickIn.wkc) ::
            .sent ((List.range 17).map fun a => s.pdoOut.read a) :: s.trace
        else .sent ((List.range 17).map fun a => s.pdoOut.read a) :: s.trace } ∧
     t.wkcErrCount.toNat =
       if short then min (s.wkcErrCount.toNat + 1) 4294967295 else s.wkcErrCount.toNat) ∧
    t.statusWord = s.tickIn.record.statusWord ∧
    t.actualPosition = s.tickIn.record.actualPosition ∧
    t.actualVelocity = s.tickIn.record.actualVelocity ∧
    t.readIn .actualTorque = s.tickIn.record.actualTorque.toNat ∧
    t.readIn .followingError = s.tickIn.record.followingError.toNat ∧
    t.readIn .modeDisplay = s.tickIn.record.modeDisplay.toNat ∧
    t.readIn .touchProbeStatus = s.tickIn.record.touchProbeStatus.toNat ∧
    t.readIn .touchProbePosition = s.tickIn.record.touchProbePosition.toNat

/-- 42 R146: the stop check ends the tick; with `shutdown` set it stops the loop and requests INIT. -/
def Obligations.StopCheckStopsTheLoop : Prop :=
  ∀ (s : State) (pick : Option SnapReg), s.phase = .stopCheck →
    coreStep pick s = .next
      (if s.shutdown then
        { s with phase := .idle, runState := .stopped, trace := .request .init :: s.trace }
      else { s with phase := .idle })

/-- 42 R142: the steps of a tick, taken one by one with nothing in between, are the one transition of
R142's phase table, and take at most 16 steps. That a tick is run step by step is the model's choice (log
2); both sides run MP.VEL in every `MODE` but `MODE_POS` (DEDUCED, log 14). -/
def Obligations.StepsOfATickAreOneTransition : Prop :=
  ∀ (s : State) (inp : TickInput), s.phase = .idle → s.runState = .running →
    s.nextWake.toNat ≤ s.now.toNat → s.inputs = [.tick inp] →
    ∃ k t, k ≤ 16 ∧ Host.Core.run core k s = .next t ∧ t.phase = .idle ∧
      wholeTick inp { s with inputs := [] } = .next t

/-- 60 R198: in one tick SoftCommFault and DriveFault may both be raised, in that order, and BusError
excludes both. -/
def Obligations.EventsOfATickInPhaseOrder : Prop :=
  ∀ (s t : State) (inp : TickInput), wholeTick inp s = .next t →
    ∃ outs : List Output, t.trace = outs.reverse ++ s.trace ∧
      (outs.filterMap fun o => match o with
        | .event e => some (Event.code e)
        | _ => none) ∈ [[], [2], [3], [1], [2, 1]]

/-- 20 R49, 00 R4, 70 R210: while a tick is in progress, a `CTRL` write, a reset and the next tick are
ordered after it: the step is the core's own, and the stimulus stays next. That a `CTRL` write waits,
rather than counting as before the tick, is the model's choice (log 3). -/
def Obligations.CtrlWritesAndResetWaitForTheTick : Prop :=
  ∀ (s : State) (x : Stimulus) (rest : List Stimulus), s.phase ≠ .idle → s.inputs = x :: rest →
    (x = .reset ∨ (∃ inp, x = .tick inp) ∨ (∃ w, x = .host (.write 0 w)) ∨
      ∃ w, x = .hostInside (.write 0 w)) →
    ∃ t, step s = .next t ∧ coreStep none s = .next t ∧ t.inputs = x :: rest

/-! ### The whole machine -/

/-- The step runs the decoded operation: inside a tick (42 R142) the selector word of the phase decodes
to operation `i` and the step is `exec i`, then the tick goes on at the phase after it; at the doorbell
(44 R170) the word written to `CTRL` decodes to `i` and the step is `exec i` with the write consumed; at
the start of the profiler phase, where no word selects the triggered operations (30 R60), the step is
MP.ADOPT with a command pending in position mode, and MP.VEL in every other `MODE`. That MP.VEL runs in
every `MODE` but `MODE_POS`, where 41 R113 selects it by `MODE = MODE_VEL`, is read from the `else` of 41
R117 (DEDUCED, log 14); that a tick is run step by step is the model's choice (log 2). -/
def Obligations.StepRunsTheDecodedOperation : Prop :=
  (∀ (s u : State) (f : Format) (w : Word) (i : Instr), s.selector = some (f, w) → decode f w = .ok i →
    exec i s = .next u →
    (s.inputs = [] ∨ ∃ x rest, s.inputs = x :: rest ∧ x.waits = true) →
    step s = .next { u with phase := nextPhase i s.phase u }) ∧
  (∀ (s u : State) (f : Format) (w : Word) (i : Instr) (pick : Option SnapReg) (rest : List Stimulus),
    s.selector = some (f, w) → decode f w = .ok i → s.inputs = .core pick :: rest →
    exec i { s with inputs := rest } = .next u →
    step s = .next { u with phase := nextPhase i s.phase u }) ∧
  (∀ (s : State) (w : Word) (i : Instr) (rest : List Stimulus), s.phase = .idle →
    s.inputs = .host (.write 0 w) :: rest → decode .hc w = .ok i →
    step s = exec i { s with inputs := rest }) ∧
  (∀ s : State, s.phase = .profiler → s.inputs = [] →
    (s.mode = s.params.modePos → s.cmdPending = true →
      ∀ u, exec .mpAdopt s = .next u → step s = .next { u with phase := .motion }) ∧
    (s.mode ≠ s.params.modePos →
      ∀ u, exec .mpVel s = .next u → step s = .next { u with phase := .outputs }))

/-- 10 R30: every step keeps the invariant (items 1 to 6 of the rule, the canonical records, and what
holds at each point of a tick). -/
def Obligations.EveryStepKeepsTheInvariant : Prop :=
  ∀ s t : State, s.Inv → step s = .next t → t.Inv

/-- 44 R182, 60 R200: the core never writes a register the host owns, and no host access writes a
register the core owns or the input record. -/
def Obligations.NoAgentWritesTheOthersRegisters : Prop :=
  (∀ (s t : State) (pick : Option SnapReg), coreStep pick s = .next t →
    SameHostOwned s t ∧ (s.cmdPending = false → t.cmdPending = false)) ∧
  (∀ (s t : State) (a : Access), access a s = .next t →
    SameCoreOwned s t ∧ (s.shutdown = true → t.shutdown = true) ∧
      (t.runState ≠ s.runState → s.runState = .halted) ∧ (s.runState ≠ .halted → t.pdoOut = s.pdoOut))

/-- 10 R15, 42 R146 (c), 60 R200: after Stopped no step but reset changes a register the core owns, the
output record or the wake time, and the loop stays stopped. -/
def Obligations.StoppedIsLeftOnlyByReset : Prop :=
  ∀ s t : State, s.runState = .stopped → s.phase = .idle → (∀ rest, s.inputs ≠ .reset :: rest) →
    step s = .next t →
    t.runState = .stopped ∧ t.phase = .idle ∧ SameCoreOwned s t ∧ t.pdoOut = s.pdoOut ∧
      t.nextWake = s.nextWake ∧ t.cmdPending = s.cmdPending

/-- 10 R16, 70 R210: nothing but reset clears `shutdown`, and `ack` changes only with an adoption (41 R103)
or a reset. -/
def Obligations.OnlyResetClearsShutdownOnlyAdoptionOrResetChangesAck : Prop :=
  ∀ s t : State, step s = .next t →
    (s.shutdown = true → t.shutdown = false → ∃ rest, s.inputs = .reset :: rest) ∧
    (t.ack ≠ s.ack → (∃ rest, s.inputs = .reset :: rest) ∨
      (s.cmdPending = true ∧ t.cmdPending = false ∧ t.motionState = .accelerating))

/-- 20 R44, 60 R190, R194: no step stops, with the one exception of a time base set back, which 42 R140
excludes; there the model stops with its own fault (log 7). -/
def Obligations.EveryStepAnswersUnlessTimeGoesBack : Prop :=
  (∀ s : State, (∀ u rest, s.inputs = .advance u :: rest → s.now.toNat ≤ u.toNat) →
    ∃ t, step s = .next t) ∧
  (∀ (s : State) (u : Dword) (rest : List Stimulus), s.phase = .idle → s.inputs = .advance u :: rest →
    u.toNat < s.now.toNat → step s = .fault .timeBaseDecreased)

/-- 00 R5 ("fixed for the life of a model instance", 10 R10), 42 R140: no step changes a parameter or
sets the time base back. -/
def Obligations.ParametersFixedAndTimeNeverDecreases : Prop :=
  ∀ s t : State, step s = .next t → t.params = s.params ∧ s.now.toNat ≤ t.now.toNat
end

