-- ==== Sys2Proof/Laws/Arith.lean ====
section
/-! SUPPORT. Ranges of the profiler's integers (41_motion_profiler.md R102) and what legal parameters
give (00_scope.md R5, R6). -/

namespace Sys2Proof.Machine

theorem sat64_range (x : Int) : -9223372036854775808 ≤ sat64 x ∧ sat64 x ≤ 9223372036854775807 := by
  unfold sat64; omega

theorem sat32_range (x : Int) : -2147483648 ≤ sat32 x ∧ sat32 x ≤ 2147483647 := by
  unfold sat32; omega

theorem sat64_eq_self {x : Int} (h : -9223372036854775808 ≤ x) (h' : x ≤ 9223372036854775807) :
    sat64 x = x := by unfold sat64; omega

theorem sat32_eq_self {x : Int} (h : -2147483648 ≤ x) (h' : x ≤ 2147483647) : sat32 x = x := by
  unfold sat32; omega

/-- A value within 64 bits is written and read back whole. -/
theorem toInt_ofInt64 {x : Int} (h : -9223372036854775808 ≤ x) (h' : x ≤ 9223372036854775807) :
    (BitVec.ofInt 64 x).toInt = x :=
  BitVec.toInt_ofInt_eq_self (by omega) (by omega) (by omega)

/-- A value within 32 bits is written and read back whole. -/
theorem toInt_ofInt32 {x : Int} (h : -2147483648 ≤ x) (h' : x ≤ 2147483647) :
    (BitVec.ofInt 32 x).toInt = x :=
  BitVec.toInt_ofInt_eq_self (by omega) (by omega) (by omega)

@[simp] theorem toInt_ofInt_sat64 (x : Int) : (BitVec.ofInt 64 (sat64 x)).toInt = sat64 x :=
  toInt_ofInt64 (sat64_range x).1 (sat64_range x).2

@[simp] theorem toInt_ofInt_sat32 (x : Int) : (BitVec.ofInt 32 (sat32 x)).toInt = sat32 x :=
  toInt_ofInt32 (sat32_range x).1 (sat32_range x).2

theorem toInt64_range (x : Dword) :
    -9223372036854775808 ≤ x.toInt ∧ x.toInt ≤ 9223372036854775807 := by
  have h1 := BitVec.le_toInt x
  have h2 := BitVec.toInt_lt (x := x)
  simp only [Nat.reduceSub] at h1 h2
  omega

theorem toInt32_range (x : Word) : -2147483648 ≤ x.toInt ∧ x.toInt ≤ 2147483647 := by
  have h1 := BitVec.le_toInt x
  have h2 := BitVec.toInt_lt (x := x)
  simp only [Nat.reduceSub] at h1 h2
  omega

/-- A 32-bit pattern that reads as at least 1 has bit 31 clear. -/
theorem toNat_of_one_le_toInt {x : Word} (h : 1 ≤ x.toInt) : x.toInt = x.toNat ∧ x.toNat < 2 ^ 31 := by
  have hx := x.isLt
  rw [BitVec.toInt_eq_toNat_cond] at h ⊢
  split <;> rename_i hc
  · exact ⟨rfl, by omega⟩
  · rw [if_neg hc] at h; omega

end Sys2Proof.Machine

namespace Sys2Proof

/-- `TICK_HZ` of legal parameters is 1 to 10000. -/
theorem Params.tickHz_range {p : Params} (h : p.legal = true) : 1 ≤ p.tickHz ∧ p.tickHz ≤ 10000 := by
  simp only [Params.legal, Params.tickHzLegal, Bool.and_eq_true, decide_eq_true_eq] at h
  omega

/-- `MODE_POS` and `MODE_VEL` of legal parameters differ. -/
theorem Params.modes_ne {p : Params} (h : p.legal = true) : p.modePos ≠ p.modeVel := by
  simp only [Params.legal, Params.modesLegal, Bool.and_eq_true, bne_iff_ne] at h
  exact h.2

/-- `POS_TOL` of legal parameters is below 2^31. -/
theorem Params.posTol_lt {p : Params} (h : p.legal = true) : p.posTol < 2 ^ 31 := by
  simp only [Params.legal, Params.posTolLegal, Bool.and_eq_true, decide_eq_true_eq] at h
  exact h.1.1.2

end Sys2Proof

namespace Sys2Proof.Machine

/-- The scales of legal parameters (00_scope.md R5). -/
theorem State.scale_range {s : State} (h : s.params.legal = true) :
    1 ≤ s.s1 ∧ s.s1 ≤ 10000 ∧ 1 ≤ s.s2 ∧ s.s2 ≤ 100000000 := by
  have ⟨h1, h2⟩ := Params.tickHz_range h
  have l1 : (1 : Int) ≤ (s.params.tickHz : Int) := by omega
  have l2 : (s.params.tickHz : Int) ≤ 10000 := by omega
  refine ⟨l1, l2, ?_, ?_⟩
  · have := Int.mul_le_mul l1 l1 (by omega) (by omega)
    simpa [State.s2] using this
  · have := Int.mul_le_mul l2 l2 (by omega) (by omega)
    simpa [State.s2] using this

/-- `tgt * S2` is within 64 bits: 41_motion_profiler.md R108 corner (e), "exact and below 2^58". -/
theorem State.target_range {s : State} (h : s.params.legal = true) :
    -214748364800000000 ≤ s.target ∧ s.target ≤ 214748364800000000 := by
  have ⟨_, _, h3, h4⟩ := State.scale_range h
  have ⟨t1, t2⟩ := toInt32_range s.tgt
  unfold State.target
  constructor
  · have a := Int.mul_le_mul_of_nonneg_right t1 (show 0 ≤ s.s2 by omega)
    have b := Int.mul_le_mul_of_nonneg_left h4 (show (0 : Int) ≤ 2147483648 by omega)
    omega
  · have a := Int.mul_le_mul_of_nonneg_right t2 (show 0 ≤ s.s2 by omega)
    have b := Int.mul_le_mul_of_nonneg_left h4 (show (0 : Int) ≤ 2147483647 by omega)
    omega

/-- `vmax * S1` is at least 0 and far inside 64 bits (41_motion_profiler.md R102). -/
theorem State.velLimit_range {s : State} (h : s.params.legal = true) :
    0 ≤ s.velLimit ∧ s.velLimit ≤ 42949672950000 := by
  have ⟨h1, h2, _, _⟩ := State.scale_range h
  have hv := s.vmax.isLt
  unfold State.velLimit
  constructor
  · exact Int.mul_nonneg (by omega) (by omega)
  · have a := Int.mul_le_mul (show (s.vmax.toNat : Int) ≤ 4294967295 by omega) h2 (by omega) (by omega)
    omega

/-- `d` is +1 or -1. -/
theorem State.direction_cases (s : State) : s.direction = 1 ∨ s.direction = -1 := by
  unfold State.direction; split <;> simp

/-- A velocity update by `VelAcc` stays within the larger of the old velocity and the limit (41 R105). -/
theorem natAbs_velAcc_le {d v a lim : Int} (ha : 0 ≤ a) (hl : 0 ≤ lim) :
    ((velAcc d v a lim).natAbs : Int) ≤ max (v.natAbs : Int) lim := by
  unfold velAcc; split <;> omega

/-- A velocity update by `VelDec` never grows (41 R105). -/
theorem natAbs_velDec_le {d v a : Int} (ha : 0 ≤ a) :
    ((velDec d v a).natAbs : Int) ≤ (v.natAbs : Int) := by
  unfold velDec; split <;> omega

/-- `VelCru` has the limit's magnitude (41 R105). -/
theorem natAbs_velCru {d lim : Int} (hd : d = 1 ∨ d = -1) (hl : 0 ≤ lim) :
    ((velCru d lim).natAbs : Int) = lim := by
  unfold velCru; rcases hd with rfl | rfl <;> omega

end Sys2Proof.Machine
end

