-- ==== Sys2Proof/Laws/Decode.lean ====
section
/-! SUPPORT. The codes of the states read back, and what each selector word selects. -/

namespace Sys2Proof

@[simp] theorem MotionState.ofCode_code (m : MotionState) : MotionState.ofCode m.code = m := by
  cases m <;> rfl

@[simp] theorem BusState.ofCode_code (b : BusState) : BusState.ofCode b.code = b := by cases b <;> rfl

@[simp] theorem MotionState.code_ofCode (c : Code2) : (MotionState.ofCode c).code = c := by
  revert c; decide

@[simp] theorem BusState.code_ofCode (c : Code2) : (BusState.ofCode c).code = c := by
  revert c; decide

@[simp] theorem decode_ms_code (m : MotionState) :
    decode .ms (m.code.setWidth 32) = .ok m.instr := by cases m <;> rfl

@[simp] theorem decode_bs_code (b : BusState) :
    decode .bs (b.code.setWidth 32) = .ok b.instr := by cases b <;> rfl

@[simp] theorem decode_sw_word (sw : Half) : decode .sw (sw.setWidth 32) = .ok (decodeSw sw) := by
  simp only [decode]
  congr 2
  rw [BitVec.setWidth_setWidth_of_le _ (by omega)]
  simp

/-- The operation of a status word is DS.OPEN exactly when it decodes to OperationEnabled. -/
theorem decodeSw_eq_dsOpen (sw : Half) : decodeSw sw = .dsOpen ↔ decodeStatus sw = .operationEnabled := by
  unfold decodeSw
  cases decodeStatus sw <;> simp [DriveState.instr]

/-- The operation of a status word is DS.FAULT exactly when it decodes to Fault. -/
theorem decodeSw_eq_dsFault (sw : Half) : decodeSw sw = .dsFault ↔ decodeStatus sw = .fault := by
  unfold decodeSw
  cases decodeStatus sw <;> simp [DriveState.instr]

end Sys2Proof
end

