-- ==== Sys2Proof/Laws/Memory.lean ====
section
/-! SUPPORT. The laws of the two records: a byte read after a write, the little-endian fields, and the
canonical form, which every write keeps. -/

namespace Sys2Proof.Machine

/-! ### One byte -/

@[simp] theorem Memory.read_nil (a : Nat) : Memory.read [] a = 0 := rfl

theorem Memory.read_cons (k : Nat) (b : Byte) (m : Memory) (a : Nat) :
    Memory.read ((k, b) :: m) a = if k = a then b else Memory.read m a := rfl

theorem Memory.read_erase_same (m : Memory) (a : Nat) : (m.erase a).read a = 0 := by
  induction m with
  | nil => rfl
  | cons c m ih =>
    obtain ⟨k, b⟩ := c
    by_cases h : k = a
    · simpa [Memory.erase, h] using ih
    · have : Memory.erase ((k, b) :: m) a = (k, b) :: Memory.erase m a := by simp [Memory.erase, h]
      rw [this, Memory.read_cons, if_neg h, ih]

theorem Memory.read_erase_other (m : Memory) {a x : Nat} (h : x ≠ a) : (m.erase a).read x = m.read x := by
  induction m with
  | nil => rfl
  | cons c m ih =>
    obtain ⟨k, b⟩ := c
    by_cases hk : k = a
    · have : Memory.erase ((k, b) :: m) a = Memory.erase m a := by simp [Memory.erase, hk]
      rw [this, ih, Memory.read_cons, if_neg (by omega)]
    · have : Memory.erase ((k, b) :: m) a = (k, b) :: Memory.erase m a := by simp [Memory.erase, hk]
      rw [this, Memory.read_cons, Memory.read_cons, ih]

theorem Memory.read_insert_same (m : Memory) (a : Nat) (b : Byte) (h : ∀ c ∈ m, c.1 ≠ a) :
    Memory.read (Memory.insert a b m) a = b := by
  induction m with
  | nil => simp [Memory.insert, Memory.read]
  | cons c m ih =>
    have hc := h c (by simp)
    have ih' := ih fun x hx => h x (by simp [hx])
    unfold Memory.insert
    split
    · simp [Memory.read]
    · simpa [Memory.read, hc] using ih'

theorem Memory.read_insert_other (m : Memory) {a x : Nat} (b : Byte) (h : x ≠ a) :
    Memory.read (Memory.insert a b m) x = Memory.read m x := by
  induction m with
  | nil => simp [Memory.insert, Memory.read, Ne.symm h]
  | cons c m ih =>
    unfold Memory.insert
    split
    · simp [Memory.read, Ne.symm h]
    · simp [Memory.read, ih]

/-- A byte read after a write to the same offset is the byte written. -/
@[simp] theorem Memory.read_write_same (m : Memory) (a : Nat) (b : Byte) : (m.write a b).read a = b := by
  unfold Memory.write
  split
  · rename_i h
    rw [Memory.read_erase_same, h]
  · apply Memory.read_insert_same
    intro c hc
    simpa using (List.mem_filter.mp hc).2

/-- A write leaves every other byte alone. -/
theorem Memory.read_write_other (m : Memory) {a x : Nat} (b : Byte) (h : x ≠ a) :
    (m.write a b).read x = m.read x := by
  unfold Memory.write
  split
  · exact Memory.read_erase_other m h
  · rw [Memory.read_insert_other _ _ h, Memory.read_erase_other m h]

/-! ### Fields, little-endian (20_memory.md R43) -/

/-- A field write leaves every byte outside the field alone. -/
theorem Memory.read_storeLE_outside (n off v : Nat) (m : Memory) (a : Nat) (h : a < off ∨ off + n ≤ a) :
    (m.storeLE off n v).read a = m.read a := by
  induction n generalizing off v m with
  | zero => rfl
  | succ n ih =>
    unfold Memory.storeLE
    rw [ih (off + 1) (v / 256) _ (by omega), Memory.read_write_other _ _ (by omega)]

/-- Byte `off + k` of a field written with `v` is byte `k` of `v`. -/
theorem Memory.read_storeLE_inside (n off v : Nat) (m : Memory) (k : Nat) (h : k < n) :
    (m.storeLE off n v).read (off + k) = BitVec.ofNat 8 (v / 256 ^ k) := by
  induction n generalizing off v m k with
  | zero => omega
  | succ n ih =>
    unfold Memory.storeLE
    cases k with
    | zero => rw [Memory.read_storeLE_outside _ _ _ _ _ (by omega)]; simp
    | succ k =>
      have := ih (off + 1) (v / 256) (m.write off (BitVec.ofNat 8 v)) k (by omega)
      rw [show off + (k + 1) = off + 1 + k by omega, this, Nat.div_div_eq_div_mul, Nat.pow_succ,
        Nat.mul_comm]

/-- A field's value depends only on its own bytes. -/
theorem Memory.loadLE_congr (n off : Nat) (m m' : Memory)
    (h : ∀ a, off ≤ a → a < off + n → m.read a = m'.read a) : m.loadLE off n = m'.loadLE off n := by
  induction n generalizing off with
  | zero => rfl
  | succ n ih =>
    unfold Memory.loadLE
    rw [h off (by omega) (by omega), ih (off + 1) fun a h1 h2 => h a (by omega) (by omega)]

/-- A field read after it was written gives the low `n` bytes of the value. -/
theorem Memory.loadLE_storeLE_same (n off v : Nat) (m : Memory) :
    (m.storeLE off n v).loadLE off n = v % 256 ^ n := by
  induction n generalizing off v m with
  | zero => simp [Memory.loadLE, Nat.mod_one]
  | succ n ih =>
    unfold Memory.loadLE
    have h0 : ((m.storeLE off (n + 1) v).read off).toNat = v % 256 := by
      have := Memory.read_storeLE_inside (n + 1) off v m 0 (by omega)
      simp only [Nat.add_zero, Nat.pow_zero, Nat.div_one] at this
      rw [this]; simp
    have h1 : (m.storeLE off (n + 1) v).loadLE (off + 1) n = v / 256 % 256 ^ n := by
      unfold Memory.storeLE
      exact ih (off + 1) (v / 256) _
    rw [h0, h1, Nat.pow_succ, Nat.mul_comm (256 ^ n) 256, Nat.mod_mul]

/-- A field read after another field was written gives what it gave before. -/
theorem Memory.loadLE_storeLE_disjoint (n off k o v : Nat) (m : Memory) (h : off + n ≤ o ∨ o + k ≤ off) :
    (m.storeLE o k v).loadLE off n = m.loadLE off n :=
  Memory.loadLE_congr _ _ _ _ fun a h1 h2 =>
    Memory.read_storeLE_outside k o v m a (by omega)

/-- A field of `n` bytes is below 256^n. -/
theorem Memory.loadLE_lt (n off : Nat) (m : Memory) : m.loadLE off n < 256 ^ n := by
  induction n generalizing off with
  | zero => simp [Memory.loadLE]
  | succ n ih =>
    unfold Memory.loadLE
    have h1 := ih (off + 1)
    have h2 := (m.read off).isLt
    rw [Nat.pow_succ]
    omega

/-! ### The canonical form -/

theorem Memory.wfFrom_mono {size lo lo' : Nat} {m : Memory} (h : lo' ≤ lo)
    (w : Memory.wfFrom size lo m = true) : Memory.wfFrom size lo' m = true := by
  cases m with
  | nil => rfl
  | cons c m =>
    obtain ⟨k, b⟩ := c
    simp only [Memory.wfFrom, Bool.and_eq_true, decide_eq_true_eq, bne_iff_ne] at w ⊢
    exact ⟨⟨⟨by omega, w.1.1.2⟩, w.1.2⟩, w.2⟩

theorem Memory.wfFrom_erase {size lo : Nat} {m : Memory} (a : Nat)
    (w : Memory.wfFrom size lo m = true) : Memory.wfFrom size lo (m.erase a) = true := by
  induction m generalizing lo with
  | nil => rfl
  | cons c m ih =>
    obtain ⟨k, b⟩ := c
    simp only [Memory.wfFrom, Bool.and_eq_true, decide_eq_true_eq, bne_iff_ne] at w
    by_cases h : k = a
    · have : Memory.erase ((k, b) :: m) a = Memory.erase m a := by simp [Memory.erase, h]
      rw [this]
      exact Memory.wfFrom_mono (by omega) (ih w.2)
    · have : Memory.erase ((k, b) :: m) a = (k, b) :: Memory.erase m a := by simp [Memory.erase, h]
      rw [this]
      simp only [Memory.wfFrom, Bool.and_eq_true, decide_eq_true_eq, bne_iff_ne]
      exact ⟨w.1, ih w.2⟩

theorem Memory.wfFrom_insert {size lo a : Nat} {m : Memory} {b : Byte} (hb : b ≠ 0) (hlo : lo ≤ a)
    (ha : a < size) (hne : ∀ c ∈ m, c.1 ≠ a) (w : Memory.wfFrom size lo m = true) :
    Memory.wfFrom size lo (Memory.insert a b m) = true := by
  induction m generalizing lo with
  | nil => simpa [Memory.insert, Memory.wfFrom, hlo, ha] using hb
  | cons c m ih =>
    obtain ⟨k, e⟩ := c
    have hk : k ≠ a := hne (k, e) (by simp)
    simp only [Memory.wfFrom, Bool.and_eq_true, decide_eq_true_eq, bne_iff_ne] at w
    unfold Memory.insert
    split
    · rename_i h
      simp only [Memory.wfFrom, Bool.and_eq_true, decide_eq_true_eq, bne_iff_ne]
      simp only at h
      exact ⟨⟨⟨hlo, ha⟩, hb⟩, ⟨⟨⟨by omega, w.1.1.2⟩, w.1.2⟩, w.2⟩⟩
    · rename_i h
      simp only [Memory.wfFrom, Bool.and_eq_true, decide_eq_true_eq, bne_iff_ne]
      simp only at h
      exact ⟨w.1, ih (by omega) (fun x hx => hne x (by simp [hx])) w.2⟩

/-- A byte write inside the record keeps the canonical form. -/
theorem Memory.wf_write {size a : Nat} {m : Memory} (b : Byte) (ha : a < size) (w : m.wf size = true) :
    (m.write a b).wf size = true := by
  unfold Memory.write
  split
  · exact Memory.wfFrom_erase a w
  · rename_i hb
    refine Memory.wfFrom_insert hb (by omega) ha ?_ (Memory.wfFrom_erase a w)
    intro c hc
    simpa using (List.mem_filter.mp hc).2

/-- A field write inside the record keeps the canonical form. -/
theorem Memory.wf_storeLE {size : Nat} (n off v : Nat) {m : Memory} (h : off + n ≤ size)
    (w : m.wf size = true) : (m.storeLE off n v).wf size = true := by
  induction n generalizing off v m with
  | zero => exact w
  | succ n ih =>
    unfold Memory.storeLE
    exact ih (off + 1) (v / 256) (by omega) (Memory.wf_write _ (by omega) w)

theorem Memory.read_below {size lo a : Nat} {m : Memory} (w : Memory.wfFrom size lo m = true)
    (h : a < lo) : m.read a = 0 := by
  induction m generalizing lo with
  | nil => rfl
  | cons c m ih =>
    obtain ⟨k, b⟩ := c
    simp only [Memory.wfFrom, Bool.and_eq_true, decide_eq_true_eq, bne_iff_ne] at w
    rw [Memory.read_cons, if_neg (by omega), ih w.2 (by omega)]

/-- Two records in canonical form that read alike everywhere are the same list. -/
theorem Memory.ext_of_wf {size lo : Nat} {m m' : Memory} (w : Memory.wfFrom size lo m = true)
    (w' : Memory.wfFrom size lo m' = true) (h : ∀ a, m.read a = m'.read a) : m = m' := by
  induction m generalizing lo m' with
  | nil =>
    cases m' with
    | nil => rfl
    | cons c m' =>
      obtain ⟨k, b⟩ := c
      have hk := h k
      simp only [Memory.wfFrom, Bool.and_eq_true, decide_eq_true_eq, bne_iff_ne] at w'
      simp [Memory.read_cons] at hk
      exact absurd hk.symm w'.1.2
  | cons c m ih =>
    obtain ⟨k, b⟩ := c
    simp only [Memory.wfFrom, Bool.and_eq_true, decide_eq_true_eq, bne_iff_ne] at w
    cases m' with
    | nil =>
      have hk := h k
      simp [Memory.read_cons] at hk
      exact absurd hk w.1.2
    | cons c' m' =>
      obtain ⟨k', b'⟩ := c'
      simp only [Memory.wfFrom, Bool.and_eq_true, decide_eq_true_eq, bne_iff_ne] at w'
      have hkk : k = k' := by
        rcases Nat.lt_trichotomy k k' with hlt | heq | hgt
        · have hk := h k
          rw [Memory.read_cons, if_pos rfl, Memory.read_cons, if_neg (by omega),
            Memory.read_below w'.2 (by omega)] at hk
          exact absurd hk w.1.2
        · exact heq
        · have hk := h k'
          rw [Memory.read_cons, if_neg (by omega), Memory.read_below w.2 (by omega),
            Memory.read_cons, if_pos rfl] at hk
          exact absurd hk.symm w'.1.2
      subst hkk
      have hb : b = b' := by simpa [Memory.read_cons] using h k
      subst hb
      congr 1
      refine ih w.2 w'.2 fun a => ?_
      by_cases ha : k = a
      · subst ha
        rw [Memory.read_below w.2 (by omega), Memory.read_below w'.2 (by omega)]
      · simpa [Memory.read_cons, ha] using h a

/-! ### Fields of the state's records -/

@[simp] theorem State.readOut_writeOut_same (f : OutField) (v : Nat) (s : State) :
    (s.writeOut f v).readOut f = v % 256 ^ OutField.size f :=
  Memory.loadLE_storeLE_same _ _ _ _

/-- The fields of the output record do not overlap (20_memory.md R41). -/
theorem OutField.disjoint (f g : OutField) (h : f ≠ g) :
    OutField.offset f + OutField.size f ≤ OutField.offset g ∨
      OutField.offset g + OutField.size g ≤ OutField.offset f := by
  cases f <;> cases g <;> first | exact absurd rfl h | decide

@[simp] theorem State.readOut_writeOut_other (f g : OutField) (v : Nat) (s : State) (h : f ≠ g) :
    (s.writeOut f v).readOut g = s.readOut g :=
  Memory.loadLE_storeLE_disjoint _ _ _ _ _ _ (OutField.disjoint g f h.symm)

theorem OutField.inside (f : OutField) : OutField.offset f + OutField.size f ≤ outSize := by
  cases f <;> decide

theorem InField.inside (f : InField) : InField.offset f + InField.size f ≤ inSize := by
  cases f <;> decide

theorem InField.disjoint (f g : InField) (h : f ≠ g) :
    InField.offset f + InField.size f ≤ InField.offset g ∨
      InField.offset g + InField.size g ≤ InField.offset f := by
  cases f <;> cases g <;> first | exact absurd rfl h | decide

/-- Writing a field of `PDO_OUT` keeps its canonical form. -/
theorem State.wf_writeOut (f : OutField) (v : Nat) {s : State} (w : s.pdoOut.wf outSize = true) :
    (s.writeOut f v).pdoOut.wf outSize = true :=
  Memory.wf_storeLE _ _ _ (OutField.inside f) w

/-- A byte outside a written field of `PDO_OUT` is unchanged. -/
theorem State.read_writeOut_outside (f : OutField) (v : Nat) (s : State) (a : Nat)
    (h : a < OutField.offset f ∨ OutField.offset f + OutField.size f ≤ a) :
    (s.writeOut f v).pdoOut.read a = s.pdoOut.read a :=
  Memory.read_storeLE_outside _ _ _ _ _ h

/-- The record an exchange delivers is canonical. -/
theorem InRecord.wf_toMemory (r : InRecord) : r.toMemory.wf inSize = true := by
  unfold InRecord.toMemory
  repeat' first
    | exact Memory.wf_storeLE _ _ _ (InField.inside _) rfl
    | refine Memory.wf_storeLE _ _ _ (InField.inside _) ?_

end Sys2Proof.Machine
end

