-- ==== Sys2Proof/Laws/State.lean ====
section
/-! SUPPORT. One lemma per field of State for each named update, all true by rfl, so that no proof
unfolds a record update. -/

namespace Sys2Proof.Machine

/-! ### Updates that are another update -/

@[simp] theorem State.raise_eq (e : Event) (s : State) : s.raise e = s.push (.event e) := rfl
@[simp] theorem State.request_eq (t : BusTarget) (s : State) : s.request t = s.push (.request t) := rfl
@[simp] theorem State.hostRead_eq (n : Nat) (s : State) :
    s.hostRead n = s.push (.readBack n (s.hostValue n)) := rfl

/-! ### `push` -/

@[simp] theorem State.push_params (o : Output) (s : State) : (s.push o).params = s.params := rfl
@[simp] theorem State.push_posRef (o : Output) (s : State) : (s.push o).posRef = s.posRef := rfl
@[simp] theorem State.push_velRef (o : Output) (s : State) : (s.push o).velRef = s.velRef := rfl
@[simp] theorem State.push_tgt (o : Output) (s : State) : (s.push o).tgt = s.tgt := rfl
@[simp] theorem State.push_vmax (o : Output) (s : State) : (s.push o).vmax = s.vmax := rfl
@[simp] theorem State.push_acc (o : Output) (s : State) : (s.push o).acc = s.acc := rfl
@[simp] theorem State.push_velCmd (o : Output) (s : State) : (s.push o).velCmd = s.velCmd := rfl
@[simp] theorem State.push_motionState (o : Output) (s : State) : (s.push o).motionState = s.motionState := rfl
@[simp] theorem State.push_busState (o : Output) (s : State) : (s.push o).busState = s.busState := rfl
@[simp] theorem State.push_runState (o : Output) (s : State) : (s.push o).runState = s.runState := rfl
@[simp] theorem State.push_driveOp (o : Output) (s : State) : (s.push o).driveOp = s.driveOp := rfl
@[simp] theorem State.push_fault (o : Output) (s : State) : (s.push o).fault = s.fault := rfl
@[simp] theorem State.push_shutdown (o : Output) (s : State) : (s.push o).shutdown = s.shutdown := rfl
@[simp] theorem State.push_ack (o : Output) (s : State) : (s.push o).ack = s.ack := rfl
@[simp] theorem State.push_cmdPending (o : Output) (s : State) : (s.push o).cmdPending = s.cmdPending := rfl
@[simp] theorem State.push_velActive (o : Output) (s : State) : (s.push o).velActive = s.velActive := rfl
@[simp] theorem State.push_nextWake (o : Output) (s : State) : (s.push o).nextWake = s.nextWake := rfl
@[simp] theorem State.push_wkcErrCount (o : Output) (s : State) : (s.push o).wkcErrCount = s.wkcErrCount := rfl
@[simp] theorem State.push_pendKind (o : Output) (s : State) : (s.push o).pendKind = s.pendKind := rfl
@[simp] theorem State.push_pendTarget (o : Output) (s : State) : (s.push o).pendTarget = s.pendTarget := rfl
@[simp] theorem State.push_pendVmax (o : Output) (s : State) : (s.push o).pendVmax = s.pendVmax := rfl
@[simp] theorem State.push_pendAcc (o : Output) (s : State) : (s.push o).pendAcc = s.pendAcc := rfl
@[simp] theorem State.push_mode (o : Output) (s : State) : (s.push o).mode = s.mode := rfl
@[simp] theorem State.push_expectedWkc (o : Output) (s : State) : (s.push o).expectedWkc = s.expectedWkc := rfl
@[simp] theorem State.push_result (o : Output) (s : State) : (s.push o).result = s.result := rfl
@[simp] theorem State.push_cmdTarget (o : Output) (s : State) : (s.push o).cmdTarget = s.cmdTarget := rfl
@[simp] theorem State.push_cmdVmax (o : Output) (s : State) : (s.push o).cmdVmax = s.cmdVmax := rfl
@[simp] theorem State.push_cmdAccel (o : Output) (s : State) : (s.push o).cmdAccel = s.cmdAccel := rfl
@[simp] theorem State.push_errcode (o : Output) (s : State) : (s.push o).errcode = s.errcode := rfl
@[simp] theorem State.push_snapBusOp (o : Output) (s : State) : (s.push o).snapBusOp = s.snapBusOp := rfl
@[simp] theorem State.push_snapDriveOp (o : Output) (s : State) : (s.push o).snapDriveOp = s.snapDriveOp := rfl
@[simp] theorem State.push_snapFault (o : Output) (s : State) : (s.push o).snapFault = s.snapFault := rfl
@[simp] theorem State.push_snapSw (o : Output) (s : State) : (s.push o).snapSw = s.snapSw := rfl
@[simp] theorem State.push_snapCw (o : Output) (s : State) : (s.push o).snapCw = s.snapCw := rfl
@[simp] theorem State.push_snapApos (o : Output) (s : State) : (s.push o).snapApos = s.snapApos := rfl
@[simp] theorem State.push_snapAvel (o : Output) (s : State) : (s.push o).snapAvel = s.snapAvel := rfl
@[simp] theorem State.push_snapMstate (o : Output) (s : State) : (s.push o).snapMstate = s.snapMstate := rfl
@[simp] theorem State.push_pdoOut (o : Output) (s : State) : (s.push o).pdoOut = s.pdoOut := rfl
@[simp] theorem State.push_pdoIn (o : Output) (s : State) : (s.push o).pdoIn = s.pdoIn := rfl
@[simp] theorem State.push_now (o : Output) (s : State) : (s.push o).now = s.now := rfl
@[simp] theorem State.push_tickIn (o : Output) (s : State) : (s.push o).tickIn = s.tickIn := rfl
@[simp] theorem State.push_phase (o : Output) (s : State) : (s.push o).phase = s.phase := rfl
@[simp] theorem State.push_inputs (o : Output) (s : State) : (s.push o).inputs = s.inputs := rfl
@[simp] theorem State.push_trace (o : Output) (s : State) : (s.push o).trace = o :: s.trace := rfl
@[simp] theorem State.push_freeCount (o : Output) (s : State) : (s.push o).freeCount = s.freeCount := rfl

/-! ### `writeOut` -/

@[simp] theorem State.writeOut_params (f : OutField) (v : Nat) (s : State) : (s.writeOut f v).params = s.params := rfl
@[simp] theorem State.writeOut_posRef (f : OutField) (v : Nat) (s : State) : (s.writeOut f v).posRef = s.posRef := rfl
@[simp] theorem State.writeOut_velRef (f : OutField) (v : Nat) (s : State) : (s.writeOut f v).velRef = s.velRef := rfl
@[simp] theorem State.writeOut_tgt (f : OutField) (v : Nat) (s : State) : (s.writeOut f v).tgt = s.tgt := rfl
@[simp] theorem State.writeOut_vmax (f : OutField) (v : Nat) (s : State) : (s.writeOut f v).vmax = s.vmax := rfl
@[simp] theorem State.writeOut_acc (f : OutField) (v : Nat) (s : State) : (s.writeOut f v).acc = s.acc := rfl
@[simp] theorem State.writeOut_velCmd (f : OutField) (v : Nat) (s : State) : (s.writeOut f v).velCmd = s.velCmd := rfl
@[simp] theorem State.writeOut_motionState (f : OutField) (v : Nat) (s : State) : (s.writeOut f v).motionState = s.motionState := rfl
@[simp] theorem State.writeOut_busState (f : OutField) (v : Nat) (s : State) : (s.writeOut f v).busState = s.busState := rfl
@[simp] theorem State.writeOut_runState (f : OutField) (v : Nat) (s : State) : (s.writeOut f v).runState = s.runState := rfl
@[simp] theorem State.writeOut_driveOp (f : OutField) (v : Nat) (s : State) : (s.writeOut f v).driveOp = s.driveOp := rfl
@[simp] theorem State.writeOut_fault (f : OutField) (v : Nat) (s : State) : (s.writeOut f v).fault = s.fault := rfl
@[simp] theorem State.writeOut_shutdown (f : OutField) (v : Nat) (s : State) : (s.writeOut f v).shutdown = s.shutdown := rfl
@[simp] theorem State.writeOut_ack (f : OutField) (v : Nat) (s : State) : (s.writeOut f v).ack = s.ack := rfl
@[simp] theorem State.writeOut_cmdPending (f : OutField) (v : Nat) (s : State) : (s.writeOut f v).cmdPending = s.cmdPending := rfl
@[simp] theorem State.writeOut_velActive (f : OutField) (v : Nat) (s : State) : (s.writeOut f v).velActive = s.velActive := rfl
@[simp] theorem State.writeOut_nextWake (f : OutField) (v : Nat) (s : State) : (s.writeOut f v).nextWake = s.nextWake := rfl
@[simp] theorem State.writeOut_wkcErrCount (f : OutField) (v : Nat) (s : State) : (s.writeOut f v).wkcErrCount = s.wkcErrCount := rfl
@[simp] theorem State.writeOut_pendKind (f : OutField) (v : Nat) (s : State) : (s.writeOut f v).pendKind = s.pendKind := rfl
@[simp] theorem State.writeOut_pendTarget (f : OutField) (v : Nat) (s : State) : (s.writeOut f v).pendTarget = s.pendTarget := rfl
@[simp] theorem State.writeOut_pendVmax (f : OutField) (v : Nat) (s : State) : (s.writeOut f v).pendVmax = s.pendVmax := rfl
@[simp] theorem State.writeOut_pendAcc (f : OutField) (v : Nat) (s : State) : (s.writeOut f v).pendAcc = s.pendAcc := rfl
@[simp] theorem State.writeOut_mode (f : OutField) (v : Nat) (s : State) : (s.writeOut f v).mode = s.mode := rfl
@[simp] theorem State.writeOut_expectedWkc (f : OutField) (v : Nat) (s : State) : (s.writeOut f v).expectedWkc = s.expectedWkc := rfl
@[simp] theorem State.writeOut_result (f : OutField) (v : Nat) (s : State) : (s.writeOut f v).result = s.result := rfl
@[simp] theorem State.writeOut_cmdTarget (f : OutField) (v : Nat) (s : State) : (s.writeOut f v).cmdTarget = s.cmdTarget := rfl
@[simp] theorem State.writeOut_cmdVmax (f : OutField) (v : Nat) (s : State) : (s.writeOut f v).cmdVmax = s.cmdVmax := rfl
@[simp] theorem State.writeOut_cmdAccel (f : OutField) (v : Nat) (s : State) : (s.writeOut f v).cmdAccel = s.cmdAccel := rfl
@[simp] theorem State.writeOut_errcode (f : OutField) (v : Nat) (s : State) : (s.writeOut f v).errcode = s.errcode := rfl
@[simp] theorem State.writeOut_snapBusOp (f : OutField) (v : Nat) (s : State) : (s.writeOut f v).snapBusOp = s.snapBusOp := rfl
@[simp] theorem State.writeOut_snapDriveOp (f : OutField) (v : Nat) (s : State) : (s.writeOut f v).snapDriveOp = s.snapDriveOp := rfl
@[simp] theorem State.writeOut_snapFault (f : OutField) (v : Nat) (s : State) : (s.writeOut f v).snapFault = s.snapFault := rfl
@[simp] theorem State.writeOut_snapSw (f : OutField) (v : Nat) (s : State) : (s.writeOut f v).snapSw = s.snapSw := rfl
@[simp] theorem State.writeOut_snapCw (f : OutField) (v : Nat) (s : State) : (s.writeOut f v).snapCw = s.snapCw := rfl
@[simp] theorem State.writeOut_snapApos (f : OutField) (v : Nat) (s : State) : (s.writeOut f v).snapApos = s.snapApos := rfl
@[simp] theorem State.writeOut_snapAvel (f : OutField) (v : Nat) (s : State) : (s.writeOut f v).snapAvel = s.snapAvel := rfl
@[simp] theorem State.writeOut_snapMstate (f : OutField) (v : Nat) (s : State) : (s.writeOut f v).snapMstate = s.snapMstate := rfl
@[simp] theorem State.writeOut_pdoOut (f : OutField) (v : Nat) (s : State) : (s.writeOut f v).pdoOut = s.pdoOut.storeLE (OutField.offset f) (OutField.size f) v := rfl
@[simp] theorem State.writeOut_pdoIn (f : OutField) (v : Nat) (s : State) : (s.writeOut f v).pdoIn = s.pdoIn := rfl
@[simp] theorem State.writeOut_now (f : OutField) (v : Nat) (s : State) : (s.writeOut f v).now = s.now := rfl
@[simp] theorem State.writeOut_tickIn (f : OutField) (v : Nat) (s : State) : (s.writeOut f v).tickIn = s.tickIn := rfl
@[simp] theorem State.writeOut_phase (f : OutField) (v : Nat) (s : State) : (s.writeOut f v).phase = s.phase := rfl
@[simp] theorem State.writeOut_inputs (f : OutField) (v : Nat) (s : State) : (s.writeOut f v).inputs = s.inputs := rfl
@[simp] theorem State.writeOut_trace (f : OutField) (v : Nat) (s : State) : (s.writeOut f v).trace = s.trace := rfl
@[simp] theorem State.writeOut_freeCount (f : OutField) (v : Nat) (s : State) : (s.writeOut f v).freeCount = s.freeCount := rfl

/-! ### `setFault` -/

@[simp] theorem State.setFault_params (b : Bool) (s : State) : (s.setFault b).params = s.params := rfl
@[simp] theorem State.setFault_posRef (b : Bool) (s : State) : (s.setFault b).posRef = s.posRef := rfl
@[simp] theorem State.setFault_velRef (b : Bool) (s : State) : (s.setFault b).velRef = s.velRef := rfl
@[simp] theorem State.setFault_tgt (b : Bool) (s : State) : (s.setFault b).tgt = s.tgt := rfl
@[simp] theorem State.setFault_vmax (b : Bool) (s : State) : (s.setFault b).vmax = s.vmax := rfl
@[simp] theorem State.setFault_acc (b : Bool) (s : State) : (s.setFault b).acc = s.acc := rfl
@[simp] theorem State.setFault_velCmd (b : Bool) (s : State) : (s.setFault b).velCmd = s.velCmd := rfl
@[simp] theorem State.setFault_motionState (b : Bool) (s : State) : (s.setFault b).motionState = s.motionState := rfl
@[simp] theorem State.setFault_busState (b : Bool) (s : State) : (s.setFault b).busState = s.busState := rfl
@[simp] theorem State.setFault_runState (b : Bool) (s : State) : (s.setFault b).runState = s.runState := rfl
@[simp] theorem State.setFault_driveOp (b : Bool) (s : State) : (s.setFault b).driveOp = s.driveOp := rfl
@[simp] theorem State.setFault_fault (b : Bool) (s : State) : (s.setFault b).fault = b := rfl
@[simp] theorem State.setFault_shutdown (b : Bool) (s : State) : (s.setFault b).shutdown = s.shutdown := rfl
@[simp] theorem State.setFault_ack (b : Bool) (s : State) : (s.setFault b).ack = s.ack := rfl
@[simp] theorem State.setFault_cmdPending (b : Bool) (s : State) : (s.setFault b).cmdPending = s.cmdPending := rfl
@[simp] theorem State.setFault_velActive (b : Bool) (s : State) : (s.setFault b).velActive = s.velActive := rfl
@[simp] theorem State.setFault_nextWake (b : Bool) (s : State) : (s.setFault b).nextWake = s.nextWake := rfl
@[simp] theorem State.setFault_wkcErrCount (b : Bool) (s : State) : (s.setFault b).wkcErrCount = s.wkcErrCount := rfl
@[simp] theorem State.setFault_pendKind (b : Bool) (s : State) : (s.setFault b).pendKind = s.pendKind := rfl
@[simp] theorem State.setFault_pendTarget (b : Bool) (s : State) : (s.setFault b).pendTarget = s.pendTarget := rfl
@[simp] theorem State.setFault_pendVmax (b : Bool) (s : State) : (s.setFault b).pendVmax = s.pendVmax := rfl
@[simp] theorem State.setFault_pendAcc (b : Bool) (s : State) : (s.setFault b).pendAcc = s.pendAcc := rfl
@[simp] theorem State.setFault_mode (b : Bool) (s : State) : (s.setFault b).mode = s.mode := rfl
@[simp] theorem State.setFault_expectedWkc (b : Bool) (s : State) : (s.setFault b).expectedWkc = s.expectedWkc := rfl
@[simp] theorem State.setFault_result (b : Bool) (s : State) : (s.setFault b).result = s.result := rfl
@[simp] theorem State.setFault_cmdTarget (b : Bool) (s : State) : (s.setFault b).cmdTarget = s.cmdTarget := rfl
@[simp] theorem State.setFault_cmdVmax (b : Bool) (s : State) : (s.setFault b).cmdVmax = s.cmdVmax := rfl
@[simp] theorem State.setFault_cmdAccel (b : Bool) (s : State) : (s.setFault b).cmdAccel = s.cmdAccel := rfl
@[simp] theorem State.setFault_errcode (b : Bool) (s : State) : (s.setFault b).errcode = s.errcode := rfl
@[simp] theorem State.setFault_snapBusOp (b : Bool) (s : State) : (s.setFault b).snapBusOp = s.snapBusOp := rfl
@[simp] theorem State.setFault_snapDriveOp (b : Bool) (s : State) : (s.setFault b).snapDriveOp = s.snapDriveOp := rfl
@[simp] theorem State.setFault_snapFault (b : Bool) (s : State) : (s.setFault b).snapFault = s.snapFault := rfl
@[simp] theorem State.setFault_snapSw (b : Bool) (s : State) : (s.setFault b).snapSw = s.snapSw := rfl
@[simp] theorem State.setFault_snapCw (b : Bool) (s : State) : (s.setFault b).snapCw = s.snapCw := rfl
@[simp] theorem State.setFault_snapApos (b : Bool) (s : State) : (s.setFault b).snapApos = s.snapApos := rfl
@[simp] theorem State.setFault_snapAvel (b : Bool) (s : State) : (s.setFault b).snapAvel = s.snapAvel := rfl
@[simp] theorem State.setFault_snapMstate (b : Bool) (s : State) : (s.setFault b).snapMstate = s.snapMstate := rfl
@[simp] theorem State.setFault_pdoOut (b : Bool) (s : State) : (s.setFault b).pdoOut = s.pdoOut := rfl
@[simp] theorem State.setFault_pdoIn (b : Bool) (s : State) : (s.setFault b).pdoIn = s.pdoIn := rfl
@[simp] theorem State.setFault_now (b : Bool) (s : State) : (s.setFault b).now = s.now := rfl
@[simp] theorem State.setFault_tickIn (b : Bool) (s : State) : (s.setFault b).tickIn = s.tickIn := rfl
@[simp] theorem State.setFault_phase (b : Bool) (s : State) : (s.setFault b).phase = s.phase := rfl
@[simp] theorem State.setFault_inputs (b : Bool) (s : State) : (s.setFault b).inputs = s.inputs := rfl
@[simp] theorem State.setFault_trace (b : Bool) (s : State) : (s.setFault b).trace = s.trace := rfl
@[simp] theorem State.setFault_freeCount (b : Bool) (s : State) : (s.setFault b).freeCount = s.freeCount := rfl

/-! ### `setResult` -/

@[simp] theorem State.setResult_params (c : ResultCode) (s : State) : (s.setResult c).params = s.params := rfl
@[simp] theorem State.setResult_posRef (c : ResultCode) (s : State) : (s.setResult c).posRef = s.posRef := rfl
@[simp] theorem State.setResult_velRef (c : ResultCode) (s : State) : (s.setResult c).velRef = s.velRef := rfl
@[simp] theorem State.setResult_tgt (c : ResultCode) (s : State) : (s.setResult c).tgt = s.tgt := rfl
@[simp] theorem State.setResult_vmax (c : ResultCode) (s : State) : (s.setResult c).vmax = s.vmax := rfl
@[simp] theorem State.setResult_acc (c : ResultCode) (s : State) : (s.setResult c).acc = s.acc := rfl
@[simp] theorem State.setResult_velCmd (c : ResultCode) (s : State) : (s.setResult c).velCmd = s.velCmd := rfl
@[simp] theorem State.setResult_motionState (c : ResultCode) (s : State) : (s.setResult c).motionState = s.motionState := rfl
@[simp] theorem State.setResult_busState (c : ResultCode) (s : State) : (s.setResult c).busState = s.busState := rfl
@[simp] theorem State.setResult_runState (c : ResultCode) (s : State) : (s.setResult c).runState = s.runState := rfl
@[simp] theorem State.setResult_driveOp (c : ResultCode) (s : State) : (s.setResult c).driveOp = s.driveOp := rfl
@[simp] theorem State.setResult_fault (c : ResultCode) (s : State) : (s.setResult c).fault = s.fault := rfl
@[simp] theorem State.setResult_shutdown (c : ResultCode) (s : State) : (s.setResult c).shutdown = s.shutdown := rfl
@[simp] theorem State.setResult_ack (c : ResultCode) (s : State) : (s.setResult c).ack = s.ack := rfl
@[simp] theorem State.setResult_cmdPending (c : ResultCode) (s : State) : (s.setResult c).cmdPending = s.cmdPending := rfl
@[simp] theorem State.setResult_velActive (c : ResultCode) (s : State) : (s.setResult c).velActive = s.velActive := rfl
@[simp] theorem State.setResult_nextWake (c : ResultCode) (s : State) : (s.setResult c).nextWake = s.nextWake := rfl
@[simp] theorem State.setResult_wkcErrCount (c : ResultCode) (s : State) : (s.setResult c).wkcErrCount = s.wkcErrCount := rfl
@[simp] theorem State.setResult_pendKind (c : ResultCode) (s : State) : (s.setResult c).pendKind = s.pendKind := rfl
@[simp] theorem State.setResult_pendTarget (c : ResultCode) (s : State) : (s.setResult c).pendTarget = s.pendTarget := rfl
@[simp] theorem State.setResult_pendVmax (c : ResultCode) (s : State) : (s.setResult c).pendVmax = s.pendVmax := rfl
@[simp] theorem State.setResult_pendAcc (c : ResultCode) (s : State) : (s.setResult c).pendAcc = s.pendAcc := rfl
@[simp] theorem State.setResult_mode (c : ResultCode) (s : State) : (s.setResult c).mode = s.mode := rfl
@[simp] theorem State.setResult_expectedWkc (c : ResultCode) (s : State) : (s.setResult c).expectedWkc = s.expectedWkc := rfl
@[simp] theorem State.setResult_result (c : ResultCode) (s : State) : (s.setResult c).result = c.code := rfl
@[simp] theorem State.setResult_cmdTarget (c : ResultCode) (s : State) : (s.setResult c).cmdTarget = s.cmdTarget := rfl
@[simp] theorem State.setResult_cmdVmax (c : ResultCode) (s : State) : (s.setResult c).cmdVmax = s.cmdVmax := rfl
@[simp] theorem State.setResult_cmdAccel (c : ResultCode) (s : State) : (s.setResult c).cmdAccel = s.cmdAccel := rfl
@[simp] theorem State.setResult_errcode (c : ResultCode) (s : State) : (s.setResult c).errcode = s.errcode := rfl
@[simp] theorem State.setResult_snapBusOp (c : ResultCode) (s : State) : (s.setResult c).snapBusOp = s.snapBusOp := rfl
@[simp] theorem State.setResult_snapDriveOp (c : ResultCode) (s : State) : (s.setResult c).snapDriveOp = s.snapDriveOp := rfl
@[simp] theorem State.setResult_snapFault (c : ResultCode) (s : State) : (s.setResult c).snapFault = s.snapFault := rfl
@[simp] theorem State.setResult_snapSw (c : ResultCode) (s : State) : (s.setResult c).snapSw = s.snapSw := rfl
@[simp] theorem State.setResult_snapCw (c : ResultCode) (s : State) : (s.setResult c).snapCw = s.snapCw := rfl
@[simp] theorem State.setResult_snapApos (c : ResultCode) (s : State) : (s.setResult c).snapApos = s.snapApos := rfl
@[simp] theorem State.setResult_snapAvel (c : ResultCode) (s : State) : (s.setResult c).snapAvel = s.snapAvel := rfl
@[simp] theorem State.setResult_snapMstate (c : ResultCode) (s : State) : (s.setResult c).snapMstate = s.snapMstate := rfl
@[simp] theorem State.setResult_pdoOut (c : ResultCode) (s : State) : (s.setResult c).pdoOut = s.pdoOut := rfl
@[simp] theorem State.setResult_pdoIn (c : ResultCode) (s : State) : (s.setResult c).pdoIn = s.pdoIn := rfl
@[simp] theorem State.setResult_now (c : ResultCode) (s : State) : (s.setResult c).now = s.now := rfl
@[simp] theorem State.setResult_tickIn (c : ResultCode) (s : State) : (s.setResult c).tickIn = s.tickIn := rfl
@[simp] theorem State.setResult_phase (c : ResultCode) (s : State) : (s.setResult c).phase = s.phase := rfl
@[simp] theorem State.setResult_inputs (c : ResultCode) (s : State) : (s.setResult c).inputs = s.inputs := rfl
@[simp] theorem State.setResult_trace (c : ResultCode) (s : State) : (s.setResult c).trace = s.trace := rfl
@[simp] theorem State.setResult_freeCount (c : ResultCode) (s : State) : (s.setResult c).freeCount = s.freeCount := rfl

/-! ### `setVel` -/

@[simp] theorem State.setVel_params (v : Int) (s : State) : (s.setVel v).params = s.params := rfl
@[simp] theorem State.setVel_posRef (v : Int) (s : State) : (s.setVel v).posRef = s.posRef := rfl
@[simp] theorem State.setVel_velRef (v : Int) (s : State) : (s.setVel v).velRef = BitVec.ofInt 64 v := rfl
@[simp] theorem State.setVel_tgt (v : Int) (s : State) : (s.setVel v).tgt = s.tgt := rfl
@[simp] theorem State.setVel_vmax (v : Int) (s : State) : (s.setVel v).vmax = s.vmax := rfl
@[simp] theorem State.setVel_acc (v : Int) (s : State) : (s.setVel v).acc = s.acc := rfl
@[simp] theorem State.setVel_velCmd (v : Int) (s : State) : (s.setVel v).velCmd = s.velCmd := rfl
@[simp] theorem State.setVel_motionState (v : Int) (s : State) : (s.setVel v).motionState = s.motionState := rfl
@[simp] theorem State.setVel_busState (v : Int) (s : State) : (s.setVel v).busState = s.busState := rfl
@[simp] theorem State.setVel_runState (v : Int) (s : State) : (s.setVel v).runState = s.runState := rfl
@[simp] theorem State.setVel_driveOp (v : Int) (s : State) : (s.setVel v).driveOp = s.driveOp := rfl
@[simp] theorem State.setVel_fault (v : Int) (s : State) : (s.setVel v).fault = s.fault := rfl
@[simp] theorem State.setVel_shutdown (v : Int) (s : State) : (s.setVel v).shutdown = s.shutdown := rfl
@[simp] theorem State.setVel_ack (v : Int) (s : State) : (s.setVel v).ack = s.ack := rfl
@[simp] theorem State.setVel_cmdPending (v : Int) (s : State) : (s.setVel v).cmdPending = s.cmdPending := rfl
@[simp] theorem State.setVel_velActive (v : Int) (s : State) : (s.setVel v).velActive = s.velActive := rfl
@[simp] theorem State.setVel_nextWake (v : Int) (s : State) : (s.setVel v).nextWake = s.nextWake := rfl
@[simp] theorem State.setVel_wkcErrCount (v : Int) (s : State) : (s.setVel v).wkcErrCount = s.wkcErrCount := rfl
@[simp] theorem State.setVel_pendKind (v : Int) (s : State) : (s.setVel v).pendKind = s.pendKind := rfl
@[simp] theorem State.setVel_pendTarget (v : Int) (s : State) : (s.setVel v).pendTarget = s.pendTarget := rfl
@[simp] theorem State.setVel_pendVmax (v : Int) (s : State) : (s.setVel v).pendVmax = s.pendVmax := rfl
@[simp] theorem State.setVel_pendAcc (v : Int) (s : State) : (s.setVel v).pendAcc = s.pendAcc := rfl
@[simp] theorem State.setVel_mode (v : Int) (s : State) : (s.setVel v).mode = s.mode := rfl
@[simp] theorem State.setVel_expectedWkc (v : Int) (s : State) : (s.setVel v).expectedWkc = s.expectedWkc := rfl
@[simp] theorem State.setVel_result (v : Int) (s : State) : (s.setVel v).result = s.result := rfl
@[simp] theorem State.setVel_cmdTarget (v : Int) (s : State) : (s.setVel v).cmdTarget = s.cmdTarget := rfl
@[simp] theorem State.setVel_cmdVmax (v : Int) (s : State) : (s.setVel v).cmdVmax = s.cmdVmax := rfl
@[simp] theorem State.setVel_cmdAccel (v : Int) (s : State) : (s.setVel v).cmdAccel = s.cmdAccel := rfl
@[simp] theorem State.setVel_errcode (v : Int) (s : State) : (s.setVel v).errcode = s.errcode := rfl
@[simp] theorem State.setVel_snapBusOp (v : Int) (s : State) : (s.setVel v).snapBusOp = s.snapBusOp := rfl
@[simp] theorem State.setVel_snapDriveOp (v : Int) (s : State) : (s.setVel v).snapDriveOp = s.snapDriveOp := rfl
@[simp] theorem State.setVel_snapFault (v : Int) (s : State) : (s.setVel v).snapFault = s.snapFault := rfl
@[simp] theorem State.setVel_snapSw (v : Int) (s : State) : (s.setVel v).snapSw = s.snapSw := rfl
@[simp] theorem State.setVel_snapCw (v : Int) (s : State) : (s.setVel v).snapCw = s.snapCw := rfl
@[simp] theorem State.setVel_snapApos (v : Int) (s : State) : (s.setVel v).snapApos = s.snapApos := rfl
@[simp] theorem State.setVel_snapAvel (v : Int) (s : State) : (s.setVel v).snapAvel = s.snapAvel := rfl
@[simp] theorem State.setVel_snapMstate (v : Int) (s : State) : (s.setVel v).snapMstate = s.snapMstate := rfl
@[simp] theorem State.setVel_pdoOut (v : Int) (s : State) : (s.setVel v).pdoOut = s.pdoOut := rfl
@[simp] theorem State.setVel_pdoIn (v : Int) (s : State) : (s.setVel v).pdoIn = s.pdoIn := rfl
@[simp] theorem State.setVel_now (v : Int) (s : State) : (s.setVel v).now = s.now := rfl
@[simp] theorem State.setVel_tickIn (v : Int) (s : State) : (s.setVel v).tickIn = s.tickIn := rfl
@[simp] theorem State.setVel_phase (v : Int) (s : State) : (s.setVel v).phase = s.phase := rfl
@[simp] theorem State.setVel_inputs (v : Int) (s : State) : (s.setVel v).inputs = s.inputs := rfl
@[simp] theorem State.setVel_trace (v : Int) (s : State) : (s.setVel v).trace = s.trace := rfl
@[simp] theorem State.setVel_freeCount (v : Int) (s : State) : (s.setVel v).freeCount = s.freeCount := rfl

/-! ### `posStep` -/

@[simp] theorem State.posStep_params (s : State) : (s.posStep).params = s.params := rfl
@[simp] theorem State.posStep_posRef (s : State) : (s.posStep).posRef = BitVec.ofInt 64 (sat64 (s.pos + s.vel)) := rfl
@[simp] theorem State.posStep_velRef (s : State) : (s.posStep).velRef = s.velRef := rfl
@[simp] theorem State.posStep_tgt (s : State) : (s.posStep).tgt = s.tgt := rfl
@[simp] theorem State.posStep_vmax (s : State) : (s.posStep).vmax = s.vmax := rfl
@[simp] theorem State.posStep_acc (s : State) : (s.posStep).acc = s.acc := rfl
@[simp] theorem State.posStep_velCmd (s : State) : (s.posStep).velCmd = s.velCmd := rfl
@[simp] theorem State.posStep_motionState (s : State) : (s.posStep).motionState = s.motionState := rfl
@[simp] theorem State.posStep_busState (s : State) : (s.posStep).busState = s.busState := rfl
@[simp] theorem State.posStep_runState (s : State) : (s.posStep).runState = s.runState := rfl
@[simp] theorem State.posStep_driveOp (s : State) : (s.posStep).driveOp = s.driveOp := rfl
@[simp] theorem State.posStep_fault (s : State) : (s.posStep).fault = s.fault := rfl
@[simp] theorem State.posStep_shutdown (s : State) : (s.posStep).shutdown = s.shutdown := rfl
@[simp] theorem State.posStep_ack (s : State) : (s.posStep).ack = s.ack := rfl
@[simp] theorem State.posStep_cmdPending (s : State) : (s.posStep).cmdPending = s.cmdPending := rfl
@[simp] theorem State.posStep_velActive (s : State) : (s.posStep).velActive = s.velActive := rfl
@[simp] theorem State.posStep_nextWake (s : State) : (s.posStep).nextWake = s.nextWake := rfl
@[simp] theorem State.posStep_wkcErrCount (s : State) : (s.posStep).wkcErrCount = s.wkcErrCount := rfl
@[simp] theorem State.posStep_pendKind (s : State) : (s.posStep).pendKind = s.pendKind := rfl
@[simp] theorem State.posStep_pendTarget (s : State) : (s.posStep).pendTarget = s.pendTarget := rfl
@[simp] theorem State.posStep_pendVmax (s : State) : (s.posStep).pendVmax = s.pendVmax := rfl
@[simp] theorem State.posStep_pendAcc (s : State) : (s.posStep).pendAcc = s.pendAcc := rfl
@[simp] theorem State.posStep_mode (s : State) : (s.posStep).mode = s.mode := rfl
@[simp] theorem State.posStep_expectedWkc (s : State) : (s.posStep).expectedWkc = s.expectedWkc := rfl
@[simp] theorem State.posStep_result (s : State) : (s.posStep).result = s.result := rfl
@[simp] theorem State.posStep_cmdTarget (s : State) : (s.posStep).cmdTarget = s.cmdTarget := rfl
@[simp] theorem State.posStep_cmdVmax (s : State) : (s.posStep).cmdVmax = s.cmdVmax := rfl
@[simp] theorem State.posStep_cmdAccel (s : State) : (s.posStep).cmdAccel = s.cmdAccel := rfl
@[simp] theorem State.posStep_errcode (s : State) : (s.posStep).errcode = s.errcode := rfl
@[simp] theorem State.posStep_snapBusOp (s : State) : (s.posStep).snapBusOp = s.snapBusOp := rfl
@[simp] theorem State.posStep_snapDriveOp (s : State) : (s.posStep).snapDriveOp = s.snapDriveOp := rfl
@[simp] theorem State.posStep_snapFault (s : State) : (s.posStep).snapFault = s.snapFault := rfl
@[simp] theorem State.posStep_snapSw (s : State) : (s.posStep).snapSw = s.snapSw := rfl
@[simp] theorem State.posStep_snapCw (s : State) : (s.posStep).snapCw = s.snapCw := rfl
@[simp] theorem State.posStep_snapApos (s : State) : (s.posStep).snapApos = s.snapApos := rfl
@[simp] theorem State.posStep_snapAvel (s : State) : (s.posStep).snapAvel = s.snapAvel := rfl
@[simp] theorem State.posStep_snapMstate (s : State) : (s.posStep).snapMstate = s.snapMstate := rfl
@[simp] theorem State.posStep_pdoOut (s : State) : (s.posStep).pdoOut = s.pdoOut := rfl
@[simp] theorem State.posStep_pdoIn (s : State) : (s.posStep).pdoIn = s.pdoIn := rfl
@[simp] theorem State.posStep_now (s : State) : (s.posStep).now = s.now := rfl
@[simp] theorem State.posStep_tickIn (s : State) : (s.posStep).tickIn = s.tickIn := rfl
@[simp] theorem State.posStep_phase (s : State) : (s.posStep).phase = s.phase := rfl
@[simp] theorem State.posStep_inputs (s : State) : (s.posStep).inputs = s.inputs := rfl
@[simp] theorem State.posStep_trace (s : State) : (s.posStep).trace = s.trace := rfl
@[simp] theorem State.posStep_freeCount (s : State) : (s.posStep).freeCount = s.freeCount := rfl

/-! ### `takeOrigin` -/

@[simp] theorem State.takeOrigin_params (s : State) : (s.takeOrigin).params = s.params := rfl
@[simp] theorem State.takeOrigin_posRef (s : State) : (s.takeOrigin).posRef = BitVec.ofInt 64 (s.actualPosition.toInt * s.s2) := rfl
@[simp] theorem State.takeOrigin_velRef (s : State) : (s.takeOrigin).velRef = s.velRef := rfl
@[simp] theorem State.takeOrigin_tgt (s : State) : (s.takeOrigin).tgt = s.tgt := rfl
@[simp] theorem State.takeOrigin_vmax (s : State) : (s.takeOrigin).vmax = s.vmax := rfl
@[simp] theorem State.takeOrigin_acc (s : State) : (s.takeOrigin).acc = s.acc := rfl
@[simp] theorem State.takeOrigin_velCmd (s : State) : (s.takeOrigin).velCmd = s.velCmd := rfl
@[simp] theorem State.takeOrigin_motionState (s : State) : (s.takeOrigin).motionState = s.motionState := rfl
@[simp] theorem State.takeOrigin_busState (s : State) : (s.takeOrigin).busState = s.busState := rfl
@[simp] theorem State.takeOrigin_runState (s : State) : (s.takeOrigin).runState = s.runState := rfl
@[simp] theorem State.takeOrigin_driveOp (s : State) : (s.takeOrigin).driveOp = s.driveOp := rfl
@[simp] theorem State.takeOrigin_fault (s : State) : (s.takeOrigin).fault = s.fault := rfl
@[simp] theorem State.takeOrigin_shutdown (s : State) : (s.takeOrigin).shutdown = s.shutdown := rfl
@[simp] theorem State.takeOrigin_ack (s : State) : (s.takeOrigin).ack = s.ack := rfl
@[simp] theorem State.takeOrigin_cmdPending (s : State) : (s.takeOrigin).cmdPending = s.cmdPending := rfl
@[simp] theorem State.takeOrigin_velActive (s : State) : (s.takeOrigin).velActive = s.velActive := rfl
@[simp] theorem State.takeOrigin_nextWake (s : State) : (s.takeOrigin).nextWake = s.nextWake := rfl
@[simp] theorem State.takeOrigin_wkcErrCount (s : State) : (s.takeOrigin).wkcErrCount = s.wkcErrCount := rfl
@[simp] theorem State.takeOrigin_pendKind (s : State) : (s.takeOrigin).pendKind = s.pendKind := rfl
@[simp] theorem State.takeOrigin_pendTarget (s : State) : (s.takeOrigin).pendTarget = s.pendTarget := rfl
@[simp] theorem State.takeOrigin_pendVmax (s : State) : (s.takeOrigin).pendVmax = s.pendVmax := rfl
@[simp] theorem State.takeOrigin_pendAcc (s : State) : (s.takeOrigin).pendAcc = s.pendAcc := rfl
@[simp] theorem State.takeOrigin_mode (s : State) : (s.takeOrigin).mode = s.mode := rfl
@[simp] theorem State.takeOrigin_expectedWkc (s : State) : (s.takeOrigin).expectedWkc = s.expectedWkc := rfl
@[simp] theorem State.takeOrigin_result (s : State) : (s.takeOrigin).result = s.result := rfl
@[simp] theorem State.takeOrigin_cmdTarget (s : State) : (s.takeOrigin).cmdTarget = s.cmdTarget := rfl
@[simp] theorem State.takeOrigin_cmdVmax (s : State) : (s.takeOrigin).cmdVmax = s.cmdVmax := rfl
@[simp] theorem State.takeOrigin_cmdAccel (s : State) : (s.takeOrigin).cmdAccel = s.cmdAccel := rfl
@[simp] theorem State.takeOrigin_errcode (s : State) : (s.takeOrigin).errcode = s.errcode := rfl
@[simp] theorem State.takeOrigin_snapBusOp (s : State) : (s.takeOrigin).snapBusOp = s.snapBusOp := rfl
@[simp] theorem State.takeOrigin_snapDriveOp (s : State) : (s.takeOrigin).snapDriveOp = s.snapDriveOp := rfl
@[simp] theorem State.takeOrigin_snapFault (s : State) : (s.takeOrigin).snapFault = s.snapFault := rfl
@[simp] theorem State.takeOrigin_snapSw (s : State) : (s.takeOrigin).snapSw = s.snapSw := rfl
@[simp] theorem State.takeOrigin_snapCw (s : State) : (s.takeOrigin).snapCw = s.snapCw := rfl
@[simp] theorem State.takeOrigin_snapApos (s : State) : (s.takeOrigin).snapApos = s.snapApos := rfl
@[simp] theorem State.takeOrigin_snapAvel (s : State) : (s.takeOrigin).snapAvel = s.snapAvel := rfl
@[simp] theorem State.takeOrigin_snapMstate (s : State) : (s.takeOrigin).snapMstate = s.snapMstate := rfl
@[simp] theorem State.takeOrigin_pdoOut (s : State) : (s.takeOrigin).pdoOut = s.pdoOut := rfl
@[simp] theorem State.takeOrigin_pdoIn (s : State) : (s.takeOrigin).pdoIn = s.pdoIn := rfl
@[simp] theorem State.takeOrigin_now (s : State) : (s.takeOrigin).now = s.now := rfl
@[simp] theorem State.takeOrigin_tickIn (s : State) : (s.takeOrigin).tickIn = s.tickIn := rfl
@[simp] theorem State.takeOrigin_phase (s : State) : (s.takeOrigin).phase = s.phase := rfl
@[simp] theorem State.takeOrigin_inputs (s : State) : (s.takeOrigin).inputs = s.inputs := rfl
@[simp] theorem State.takeOrigin_trace (s : State) : (s.takeOrigin).trace = s.trace := rfl
@[simp] theorem State.takeOrigin_freeCount (s : State) : (s.takeOrigin).freeCount = s.freeCount := rfl

/-! ### `abort` -/

@[simp] theorem State.abort_params (s : State) : (s.abort).params = s.params := rfl
@[simp] theorem State.abort_posRef (s : State) : (s.abort).posRef = s.posRef := rfl
@[simp] theorem State.abort_velRef (s : State) : (s.abort).velRef = 0 := rfl
@[simp] theorem State.abort_tgt (s : State) : (s.abort).tgt = s.tgt := rfl
@[simp] theorem State.abort_vmax (s : State) : (s.abort).vmax = s.vmax := rfl
@[simp] theorem State.abort_acc (s : State) : (s.abort).acc = s.acc := rfl
@[simp] theorem State.abort_velCmd (s : State) : (s.abort).velCmd = s.velCmd := rfl
@[simp] theorem State.abort_motionState (s : State) : (s.abort).motionState = .idle := rfl
@[simp] theorem State.abort_busState (s : State) : (s.abort).busState = s.busState := rfl
@[simp] theorem State.abort_runState (s : State) : (s.abort).runState = s.runState := rfl
@[simp] theorem State.abort_driveOp (s : State) : (s.abort).driveOp = s.driveOp := rfl
@[simp] theorem State.abort_fault (s : State) : (s.abort).fault = s.fault := rfl
@[simp] theorem State.abort_shutdown (s : State) : (s.abort).shutdown = s.shutdown := rfl
@[simp] theorem State.abort_ack (s : State) : (s.abort).ack = s.ack := rfl
@[simp] theorem State.abort_cmdPending (s : State) : (s.abort).cmdPending = s.cmdPending := rfl
@[simp] theorem State.abort_velActive (s : State) : (s.abort).velActive = false := rfl
@[simp] theorem State.abort_nextWake (s : State) : (s.abort).nextWake = s.nextWake := rfl
@[simp] theorem State.abort_wkcErrCount (s : State) : (s.abort).wkcErrCount = s.wkcErrCount := rfl
@[simp] theorem State.abort_pendKind (s : State) : (s.abort).pendKind = s.pendKind := rfl
@[simp] theorem State.abort_pendTarget (s : State) : (s.abort).pendTarget = s.pendTarget := rfl
@[simp] theorem State.abort_pendVmax (s : State) : (s.abort).pendVmax = s.pendVmax := rfl
@[simp] theorem State.abort_pendAcc (s : State) : (s.abort).pendAcc = s.pendAcc := rfl
@[simp] theorem State.abort_mode (s : State) : (s.abort).mode = s.mode := rfl
@[simp] theorem State.abort_expectedWkc (s : State) : (s.abort).expectedWkc = s.expectedWkc := rfl
@[simp] theorem State.abort_result (s : State) : (s.abort).result = s.result := rfl
@[simp] theorem State.abort_cmdTarget (s : State) : (s.abort).cmdTarget = s.cmdTarget := rfl
@[simp] theorem State.abort_cmdVmax (s : State) : (s.abort).cmdVmax = s.cmdVmax := rfl
@[simp] theorem State.abort_cmdAccel (s : State) : (s.abort).cmdAccel = s.cmdAccel := rfl
@[simp] theorem State.abort_errcode (s : State) : (s.abort).errcode = s.errcode := rfl
@[simp] theorem State.abort_snapBusOp (s : State) : (s.abort).snapBusOp = s.snapBusOp := rfl
@[simp] theorem State.abort_snapDriveOp (s : State) : (s.abort).snapDriveOp = s.snapDriveOp := rfl
@[simp] theorem State.abort_snapFault (s : State) : (s.abort).snapFault = s.snapFault := rfl
@[simp] theorem State.abort_snapSw (s : State) : (s.abort).snapSw = s.snapSw := rfl
@[simp] theorem State.abort_snapCw (s : State) : (s.abort).snapCw = s.snapCw := rfl
@[simp] theorem State.abort_snapApos (s : State) : (s.abort).snapApos = s.snapApos := rfl
@[simp] theorem State.abort_snapAvel (s : State) : (s.abort).snapAvel = s.snapAvel := rfl
@[simp] theorem State.abort_snapMstate (s : State) : (s.abort).snapMstate = s.snapMstate := rfl
@[simp] theorem State.abort_pdoOut (s : State) : (s.abort).pdoOut = s.pdoOut := rfl
@[simp] theorem State.abort_pdoIn (s : State) : (s.abort).pdoIn = s.pdoIn := rfl
@[simp] theorem State.abort_now (s : State) : (s.abort).now = s.now := rfl
@[simp] theorem State.abort_tickIn (s : State) : (s.abort).tickIn = s.tickIn := rfl
@[simp] theorem State.abort_phase (s : State) : (s.abort).phase = s.phase := rfl
@[simp] theorem State.abort_inputs (s : State) : (s.abort).inputs = s.inputs := rfl
@[simp] theorem State.abort_trace (s : State) : (s.abort).trace = s.trace := rfl
@[simp] theorem State.abort_freeCount (s : State) : (s.abort).freeCount = s.freeCount := rfl

/-! ### `arrive` -/

@[simp] theorem State.arrive_params (s : State) : (s.arrive).params = s.params := rfl
@[simp] theorem State.arrive_posRef (s : State) : (s.arrive).posRef = BitVec.ofInt 64 s.target := rfl
@[simp] theorem State.arrive_velRef (s : State) : (s.arrive).velRef = 0 := rfl
@[simp] theorem State.arrive_tgt (s : State) : (s.arrive).tgt = s.tgt := rfl
@[simp] theorem State.arrive_vmax (s : State) : (s.arrive).vmax = s.vmax := rfl
@[simp] theorem State.arrive_acc (s : State) : (s.arrive).acc = s.acc := rfl
@[simp] theorem State.arrive_velCmd (s : State) : (s.arrive).velCmd = s.velCmd := rfl
@[simp] theorem State.arrive_motionState (s : State) : (s.arrive).motionState = .idle := rfl
@[simp] theorem State.arrive_busState (s : State) : (s.arrive).busState = s.busState := rfl
@[simp] theorem State.arrive_runState (s : State) : (s.arrive).runState = s.runState := rfl
@[simp] theorem State.arrive_driveOp (s : State) : (s.arrive).driveOp = s.driveOp := rfl
@[simp] theorem State.arrive_fault (s : State) : (s.arrive).fault = s.fault := rfl
@[simp] theorem State.arrive_shutdown (s : State) : (s.arrive).shutdown = s.shutdown := rfl
@[simp] theorem State.arrive_ack (s : State) : (s.arrive).ack = s.ack := rfl
@[simp] theorem State.arrive_cmdPending (s : State) : (s.arrive).cmdPending = s.cmdPending := rfl
@[simp] theorem State.arrive_velActive (s : State) : (s.arrive).velActive = s.velActive := rfl
@[simp] theorem State.arrive_nextWake (s : State) : (s.arrive).nextWake = s.nextWake := rfl
@[simp] theorem State.arrive_wkcErrCount (s : State) : (s.arrive).wkcErrCount = s.wkcErrCount := rfl
@[simp] theorem State.arrive_pendKind (s : State) : (s.arrive).pendKind = s.pendKind := rfl
@[simp] theorem State.arrive_pendTarget (s : State) : (s.arrive).pendTarget = s.pendTarget := rfl
@[simp] theorem State.arrive_pendVmax (s : State) : (s.arrive).pendVmax = s.pendVmax := rfl
@[simp] theorem State.arrive_pendAcc (s : State) : (s.arrive).pendAcc = s.pendAcc := rfl
@[simp] theorem State.arrive_mode (s : State) : (s.arrive).mode = s.mode := rfl
@[simp] theorem State.arrive_expectedWkc (s : State) : (s.arrive).expectedWkc = s.expectedWkc := rfl
@[simp] theorem State.arrive_result (s : State) : (s.arrive).result = s.result := rfl
@[simp] theorem State.arrive_cmdTarget (s : State) : (s.arrive).cmdTarget = s.cmdTarget := rfl
@[simp] theorem State.arrive_cmdVmax (s : State) : (s.arrive).cmdVmax = s.cmdVmax := rfl
@[simp] theorem State.arrive_cmdAccel (s : State) : (s.arrive).cmdAccel = s.cmdAccel := rfl
@[simp] theorem State.arrive_errcode (s : State) : (s.arrive).errcode = s.errcode := rfl
@[simp] theorem State.arrive_snapBusOp (s : State) : (s.arrive).snapBusOp = s.snapBusOp := rfl
@[simp] theorem State.arrive_snapDriveOp (s : State) : (s.arrive).snapDriveOp = s.snapDriveOp := rfl
@[simp] theorem State.arrive_snapFault (s : State) : (s.arrive).snapFault = s.snapFault := rfl
@[simp] theorem State.arrive_snapSw (s : State) : (s.arrive).snapSw = s.snapSw := rfl
@[simp] theorem State.arrive_snapCw (s : State) : (s.arrive).snapCw = s.snapCw := rfl
@[simp] theorem State.arrive_snapApos (s : State) : (s.arrive).snapApos = s.snapApos := rfl
@[simp] theorem State.arrive_snapAvel (s : State) : (s.arrive).snapAvel = s.snapAvel := rfl
@[simp] theorem State.arrive_snapMstate (s : State) : (s.arrive).snapMstate = s.snapMstate := rfl
@[simp] theorem State.arrive_pdoOut (s : State) : (s.arrive).pdoOut = s.pdoOut := rfl
@[simp] theorem State.arrive_pdoIn (s : State) : (s.arrive).pdoIn = s.pdoIn := rfl
@[simp] theorem State.arrive_now (s : State) : (s.arrive).now = s.now := rfl
@[simp] theorem State.arrive_tickIn (s : State) : (s.arrive).tickIn = s.tickIn := rfl
@[simp] theorem State.arrive_phase (s : State) : (s.arrive).phase = s.phase := rfl
@[simp] theorem State.arrive_inputs (s : State) : (s.arrive).inputs = s.inputs := rfl
@[simp] theorem State.arrive_trace (s : State) : (s.arrive).trace = s.trace := rfl
@[simp] theorem State.arrive_freeCount (s : State) : (s.arrive).freeCount = s.freeCount := rfl

end Sys2Proof.Machine
end

