-- ==== Sys2Proof/Laws/Ops.lean ====
section
/-! SUPPORT. What each shared operation can do, said once: the record reads that an update leaves
alone, `NotEnabled`, the ramp, adoption, submission, the scheduler's phases. -/

namespace Sys2Proof.Machine

/-! ### Reads an update leaves alone -/

@[simp] theorem State.readOut_push (o : Output) (s : State) (f : OutField) :
    (s.push o).readOut f = s.readOut f := rfl
@[simp] theorem State.readIn_push (o : Output) (s : State) (f : InField) :
    (s.push o).readIn f = s.readIn f := rfl
@[simp] theorem State.readIn_writeOut (f : OutField) (v : Nat) (s : State) (g : InField) :
    (s.writeOut f v).readIn g = s.readIn g := rfl
@[simp] theorem State.readOut_setFault (b : Bool) (s : State) (f : OutField) :
    (s.setFault b).readOut f = s.readOut f := rfl
@[simp] theorem State.readIn_setFault (b : Bool) (s : State) (f : InField) :
    (s.setFault b).readIn f = s.readIn f := rfl
@[simp] theorem State.actualPosition_setFault (b : Bool) (s : State) :
    (s.setFault b).actualPosition = s.actualPosition := rfl
@[simp] theorem State.s2_setFault (b : Bool) (s : State) : (s.setFault b).s2 = s.s2 := rfl

/-! ### The Drive State Machine -/

/-- `NotEnabled(cw)` as one record update (40_drive_state_machine.md R88): registers. -/
theorem State.notEnabled_eq (cw : Half) (s : State) :
    s.notEnabled cw =
      { s with
        driveOp := false,
        motionState := if s.driveOp then .idle else s.motionState,
        velRef := if s.driveOp then 0 else s.velRef,
        velActive := if s.driveOp then false else s.velActive,
        pdoOut := ((s.pdoOut.storeLE 0 2 cw.toNat).storeLE 2 4 (s.readIn .actualPosition)).storeLE 6 4 0 } := by
  unfold State.notEnabled
  cases h : s.driveOp <;> simp [State.writeOut, State.abort, OutField.offset, OutField.size, h]

/-- `NotEnabled(cw)`: the control word (R88). -/
theorem State.notEnabled_controlWord (cw : Half) (s : State) :
    (s.notEnabled cw).readOut .controlWord = cw.toNat := by
  unfold State.notEnabled
  rw [State.readOut_writeOut_other _ _ _ _ (by decide), State.readOut_writeOut_other _ _ _ _ (by decide),
    State.readOut_writeOut_same]
  have := cw.isLt
  simp only [OutField.size]
  omega

/-- `NotEnabled(cw)`: "target_position <- actual_position, bit for bit" (R88). -/
theorem State.notEnabled_targetPosition (cw : Half) (s : State) :
    (s.notEnabled cw).readOut .targetPosition = s.readIn .actualPosition := by
  unfold State.notEnabled
  rw [State.readOut_writeOut_other _ _ _ _ (by decide), State.readOut_writeOut_same]
  exact Nat.mod_eq_of_lt (Memory.loadLE_lt _ _ _)

/-- `NotEnabled(cw)`: the target velocity (R88). -/
theorem State.notEnabled_targetVelocity (cw : Half) (s : State) :
    (s.notEnabled cw).readOut .targetVelocity = 0 := by
  unfold State.notEnabled
  rw [State.readOut_writeOut_same]
  rfl

/-- `NotEnabled(cw)` leaves the bytes of `PDO_OUT` from offset 10 on alone (R88). -/
theorem State.notEnabled_rest (cw : Half) (s : State) (a : Nat) (h : 10 ≤ a) :
    (s.notEnabled cw).pdoOut.read a = s.pdoOut.read a := by
  rw [State.notEnabled_eq]
  simp only
  rw [Memory.read_storeLE_outside _ _ _ _ _ (by omega), Memory.read_storeLE_outside _ _ _ _ _ (by omega),
    Memory.read_storeLE_outside _ _ _ _ _ (by omega)]

/-! ### The Motion Profiler -/

/-- A velocity update and `PosStep` as one update (41_motion_profiler.md R105, R110). -/
theorem State.ramp_eq (v : Int) (s : State) :
    s.ramp v =
      { s with
        velRef := BitVec.ofInt 64 v,
        posRef := BitVec.ofInt 64 (sat64 (s.pos + (BitVec.ofInt 64 v).toInt)) } := rfl

/-- The position after a ramp step (R110). -/
theorem State.ramp_pos (v : Int) (s : State) :
    (s.ramp v).pos = sat64 (s.pos + (BitVec.ofInt 64 v).toInt) :=
  toInt_ofInt_sat64 _

/-- The velocity after a velocity update of R105 is the value written, for legal parameters (R102). -/
theorem State.vel_written {s : State} (h : s.params.legal = true) {v : Int}
    (hv : (v.natAbs : Int) ≤ max (s.vel.natAbs : Int) s.velLimit) (hs : v ≠ 9223372036854775808) :
    (BitVec.ofInt 64 v).toInt = v := by
  have h1 := toInt64_range s.velRef
  have h2 := (State.velLimit_range h).2
  have h3 : s.vel = s.velRef.toInt := rfl
  exact toInt_ofInt64 (by omega) (by omega)

/-- The outputs while enabled write `PDO_OUT` only (41 R111, R114). -/
theorem State.profilerOutputs_eq (s : State) :
    s.profilerOutputs = { s with pdoOut := s.profilerOutputs.pdoOut } := by
  unfold State.profilerOutputs; split <;> rfl

/-- The control word while enabled (41 R114). -/
theorem State.profilerOutputs_controlWord (s : State) :
    s.profilerOutputs.readOut .controlWord = s.enabledWord.toNat := by
  have h := s.enabledWord.isLt
  unfold State.profilerOutputs
  split <;> rw [State.readOut_writeOut_same] <;>
    exact Nat.mod_eq_of_lt h

/-- In position mode the target position is the floored and saturated one and the target velocity 0
(41 R111). -/
theorem State.profilerOutputs_position {s : State} (h : s.mode = s.params.modePos) :
    s.profilerOutputs.readOut .targetPosition = (BitVec.ofInt 32 s.counts).toNat ∧
      s.profilerOutputs.readOut .targetVelocity = 0 := by
  unfold State.profilerOutputs State.positionOutput
  rw [if_pos h]
  constructor
  · rw [State.readOut_writeOut_other _ _ _ _ (by decide), State.readOut_writeOut_other _ _ _ _ (by decide),
      State.readOut_writeOut_same]
    exact Nat.mod_eq_of_lt (BitVec.ofInt 32 s.counts).isLt
  · rw [State.readOut_writeOut_other _ _ _ _ (by decide), State.readOut_writeOut_same]
    rfl

/-- The adoption of a velocity command as one update (41 R113). -/
theorem State.adoptVelocity_eq (s : State) :
    s.adoptVelocity =
      { s with
        velCmd := if s.cmdPending then s.pendTarget else s.velCmd,
        velActive := if s.cmdPending then true else s.velActive,
        cmdPending := false } := by
  unfold State.adoptVelocity
  obtain ⟨_, _, _, _, _, _, _, _, _, _, _, _, _, _, p, _⟩ := s
  cases p <;> rfl

/-! ### The scheduler -/

/-- `next_wake` after phase 0 and START: the sum, or a free value when it leaves 64 bits (42 R145). -/
theorem State.setWake_cases (base : Dword) (s : State) :
    (base.toNat + s.periodNs < 2 ^ 64 ∧
      s.setWake base = { s with nextWake := BitVec.ofNat 64 (base.toNat + s.periodNs) }) ∨
    (2 ^ 64 ≤ base.toNat + s.periodNs ∧
      s.setWake base =
        { s with nextWake := Config.freeWake s.freeCount, freeCount := s.freeCount + 1 }) := by
  unfold State.setWake
  split
  · exact .inl ⟨by assumption, rfl⟩
  · exact .inr ⟨by omega, rfl⟩

/-- The working-counter check counts and raises, or does nothing (42 R144). -/
theorem State.wkcCheck_cases (s : State) :
    (s.wkcShort = true ∧
      s.wkcCheck =
        { s with
          wkcErrCount := BitVec.ofNat 32 (min (s.wkcErrCount.toNat + 1) 4294967295),
          trace := .event (.softCommFault s.tickIn.wkc) :: s.trace }) ∨
    (s.wkcShort = false ∧ s.wkcCheck = s) := by
  unfold State.wkcCheck
  cases h : s.wkcShort
  · exact .inr ⟨rfl, by simp⟩
  · exact .inl ⟨rfl, by simp [State.push]⟩

/-- The stop check stops and requests INIT, or does nothing (42 R146). -/
theorem State.stopCheck_cases (s : State) :
    (s.shutdown = true ∧
      s.stopCheck = { s with runState := .stopped, trace := .request .init :: s.trace }) ∨
    (s.shutdown = false ∧ s.stopCheck = s) := by
  unfold State.stopCheck
  cases h : s.shutdown
  · exact .inr ⟨rfl, by simp⟩
  · exact .inl ⟨rfl, by rw [if_pos rfl]; simp [State.stop, State.push, h]⟩

/-! ### The host channel -/

/-- One store of the publish phase writes its own snapshot register only (44 R176). -/
theorem State.storeSnap_eq (r : SnapReg) (s : State) :
    s.storeSnap r =
      { s with
        snapBusOp := (s.storeSnap r).snapBusOp, snapDriveOp := (s.storeSnap r).snapDriveOp,
        snapFault := (s.storeSnap r).snapFault, snapSw := (s.storeSnap r).snapSw,
        snapCw := (s.storeSnap r).snapCw, snapApos := (s.storeSnap r).snapApos,
        snapAvel := (s.storeSnap r).snapAvel, snapMstate := (s.storeSnap r).snapMstate } := by
  cases r <;> rfl

/-- A plain write changes host-owned registers only, and drops a pending command with `MODE` (44 R178). -/
theorem State.plainWrite_eq (r : HostReg) (w : Word) (s : State) :
    s.plainWrite r w =
      { s with
        mode := (s.plainWrite r w).mode, cmdPending := (s.plainWrite r w).cmdPending,
        expectedWkc := (s.plainWrite r w).expectedWkc, cmdTarget := (s.plainWrite r w).cmdTarget,
        cmdVmax := (s.plainWrite r w).cmdVmax, cmdAccel := (s.plainWrite r w).cmdAccel,
        errcode := (s.plainWrite r w).errcode } := by
  cases r <;> simp only [State.plainWrite] <;> (try split) <;> rfl

/-- A position move is refused with one result code, or is pending (44 R173, R174, R180). -/
theorem State.submitMove_cases (k : PendKind) (s : State) :
    (s.runState = .stopped ∧ s.submitMove k = { s with result := 3 }) ∨
    (s.runState ≠ .stopped ∧ s.mode ≠ s.params.modePos ∧ s.submitMove k = { s with result := 4 }) ∨
    (s.runState ≠ .stopped ∧ s.mode = s.params.modePos ∧ validLimits s.cmdVmax s.cmdAccel = false ∧
      s.submitMove k = { s with result := 1, trace := .event .invalidCommand :: s.trace }) ∨
    (s.runState ≠ .stopped ∧ s.mode = s.params.modePos ∧ validLimits s.cmdVmax s.cmdAccel = true ∧
      s.submitMove k =
        { s with
          pendKind := k, pendTarget := s.cmdTarget, pendVmax := s.cmdVmax, pendAcc := s.cmdAccel,
          cmdPending := true, result := 0 }) := by
  unfold State.submitMove
  by_cases h1 : s.runState = .stopped
  · exact .inl ⟨h1, by rw [if_pos h1]; rfl⟩
  · by_cases h2 : s.mode = s.params.modePos
    · cases h3 : validLimits s.cmdVmax s.cmdAccel
      · exact .inr (.inr (.inl ⟨h1, h2, rfl, by rw [if_neg h1, if_neg (fun hc => hc h2), if_pos (by simp)]; rfl⟩))
      · exact .inr (.inr (.inr ⟨h1, h2, rfl, by rw [if_neg h1, if_neg (fun hc => hc h2), if_neg (by simp)]; rfl⟩))
    · exact .inr (.inl ⟨h1, h2, by rw [if_neg h1, if_pos h2]; rfl⟩)

/-- HC.START is refused, or runs or stops the loop (44 R171). -/
theorem execHcStart_cases (s : State) :
    ((s.runState ≠ .halted ∨ s.modeLegal = false) ∧ execHcStart s = .next { s with result := 3 }) ∨
    (s.runState = .halted ∧ s.modeLegal = true ∧ s.shutdown = true ∧
      execHcStart s =
        .next (((s.writeOut .modeOfOperation s.mode.toNat).setWake s.now).stop.setResult .ok)) ∨
    (s.runState = .halted ∧ s.modeLegal = true ∧ s.shutdown = false ∧
      execHcStart s =
        .next ({ (s.writeOut .modeOfOperation s.mode.toNat).setWake s.now with
          runState := .running }.setResult .ok)) := by
  unfold execHcStart
  by_cases h1 : s.runState = .halted
  · cases h2 : s.modeLegal
    · exact .inl ⟨.inr rfl, by simp [h1, State.setResult, ResultCode.code]⟩
    · cases h3 : s.shutdown
      · exact .inr (.inr ⟨h1, rfl, rfl, by simp [h1]⟩)
      · exact .inr (.inl ⟨h1, rfl, rfl, by simp [h1]⟩)
  · exact .inl ⟨.inl h1, by simp [h1, State.setResult, ResultCode.code]⟩

end Sys2Proof.Machine
end

