-- ==== Sys2Proof/Laws/PerInstr.lean ====
section
/-! SUPPORT. The family EncodeDecode: an operation that a word selects is encoded, and its word is
decoded to it; a triggered operation has no word (30_encoding.md R60). -/

namespace Sys2Proof.Laws.EncodeDecode

/-- The operation's own word, where it has one, decodes to it; it has one exactly if a word selects it. -/
def Statement (i : Instr) : Prop :=
  match encode i with
  | some (f, w) => i.hasSelector = true ∧ decode f w = .ok i
  | none => i.hasSelector = false

theorem dsFault : Statement .dsFault := ⟨rfl, rfl⟩
theorem dsSod : Statement .dsSod := ⟨rfl, rfl⟩
theorem dsRtso : Statement .dsRtso := ⟨rfl, rfl⟩
theorem dsSon : Statement .dsSon := ⟨rfl, rfl⟩
theorem dsOpen : Statement .dsOpen := ⟨rfl, rfl⟩
theorem dsNrdy : Statement .dsNrdy := ⟨rfl, rfl⟩
theorem mpIdle : Statement .mpIdle := ⟨rfl, rfl⟩
theorem mpAcc : Statement .mpAcc := ⟨rfl, rfl⟩
theorem mpCru : Statement .mpCru := ⟨rfl, rfl⟩
theorem mpDec : Statement .mpDec := ⟨rfl, rfl⟩
theorem mpOrigin : Statement .mpOrigin := rfl
theorem mpAbort : Statement .mpAbort := rfl
theorem mpAdopt : Statement .mpAdopt := rfl
theorem mpVel : Statement .mpVel := rfl
theorem bsWait : Statement .bsWait := ⟨rfl, rfl⟩
theorem bsReq : Statement .bsReq := ⟨rfl, rfl⟩
theorem bsOp : Statement .bsOp := ⟨rfl, rfl⟩
theorem bsErr : Statement .bsErr := ⟨rfl, rfl⟩
theorem hcStart : Statement .hcStart := ⟨rfl, rfl⟩
theorem hcStop : Statement .hcStop := ⟨rfl, rfl⟩
theorem hcMoveAbs : Statement .hcMoveAbs := ⟨rfl, rfl⟩
theorem hcMoveRel : Statement .hcMoveRel := ⟨rfl, rfl⟩
theorem hcSetVel : Statement .hcSetVel := ⟨rfl, rfl⟩

end Sys2Proof.Laws.EncodeDecode
end

