-- ==== Sys2Proof/Laws/Step.lean ====
section
/-! SUPPORT. What a step can do, said once: whose turn it is, what the core's step is at each point of
a tick, and that every operation completes. -/

namespace Sys2Proof.Machine

/-! ### Every operation completes -/

/-- No operation of the table stops: each answers a next state. -/
theorem exec_completes (i : Instr) (s : State) : ∃ t, exec i s = .next t := by
  cases i <;>
    simp only [exec, execDsFault, execDsSod, execDsRtso, execDsSon, execDsOpen, execDsNrdy, execMpIdle,
      execMpAcc, execMpCru, execMpDec, execMpOrigin, execMpAbort, execMpAdopt, execMpVel, execBsWait,
      execBsReq, execBsOp, execBsErr, execHcStart, execHcStop, execHcMoveAbs, execHcMoveRel,
      execHcSetVel] <;>
    first
      | exact ⟨_, rfl⟩
      | (repeat' split) <;> exact ⟨_, rfl⟩

/-- No operation changes the parameters, the input record or the model's own fields but the outputs and
the count of free values. -/
theorem exec_frame {i : Instr} {s t : State} (h : exec i s = .next t) :
    t.params = s.params ∧ t.pdoIn = s.pdoIn ∧ t.now = s.now ∧ t.tickIn = s.tickIn ∧ t.phase = s.phase ∧
      t.inputs = s.inputs := by
  have wake : ∀ (b : Dword) (u : State), (u.setWake b).params = u.params ∧ (u.setWake b).pdoIn = u.pdoIn ∧
      (u.setWake b).now = u.now ∧ (u.setWake b).tickIn = u.tickIn ∧ (u.setWake b).phase = u.phase ∧
      (u.setWake b).inputs = u.inputs := by
    intro b u
    rcases State.setWake_cases b u with ⟨_, e⟩ | ⟨_, e⟩ <;> rw [e] <;> simp
  cases i <;>
    simp only [exec, execDsFault, execDsSod, execDsRtso, execDsSon, execDsOpen, execDsNrdy, execMpIdle,
      execMpAcc, execMpCru, execMpDec, execMpOrigin, execMpAbort, execMpAdopt, execMpVel, execBsWait,
      execBsReq, execBsOp, execBsErr, execHcStart, execHcStop, execHcMoveAbs, execHcMoveRel,
      execHcSetVel] at h <;>
    (repeat' split at h) <;> injection h with h <;> subst h
  all_goals first
    | exact ⟨rfl, rfl, rfl, rfl, rfl, rfl⟩
    | (rw [State.notEnabled_eq]; exact ⟨rfl, rfl, rfl, rfl, rfl, rfl⟩)
    | exact wake _ _
    | (rcases State.submitMove_cases .absolute s with ⟨_, e⟩ | ⟨_, _, e⟩ | ⟨_, _, _, e⟩ | ⟨_, _, _, e⟩ <;>
        rw [e] <;> simp)
    | (rcases State.submitMove_cases .relative s with ⟨_, e⟩ | ⟨_, _, e⟩ | ⟨_, _, _, e⟩ | ⟨_, _, _, e⟩ <;>
        rw [e] <;> simp)
    | (simp only [State.adoptVelocity_eq]; exact ⟨rfl, rfl, rfl, rfl, rfl, rfl⟩)

/-! ### The core's step at each point of a tick -/

theorem coreStep_idle {s : State} (h : s.phase = .idle) (pick : Option SnapReg) :
    coreStep pick s = .next s := by
  simp [coreStep, State.selectOp, State.selector, State.phaseStep, h]

theorem coreStep_exchange {s : State} (h : s.phase = .exchange) (pick : Option SnapReg) :
    coreStep pick s = .next { s.exchange.wkcCheck with phase := .monitor } := by
  simp [coreStep, State.selectOp, State.selector, State.phaseStep, h]

theorem coreStep_monitor {s : State} (h : s.phase = .monitor) (pick : Option SnapReg) :
    coreStep pick s = runOp s.busState.instr s := by
  simp [coreStep, State.selectOp, State.selector, h]

theorem coreStep_drive {s : State} (h : s.phase = .drive) (pick : Option SnapReg) :
    coreStep pick s = runOp (decodeSw s.statusWord) s := by
  simp only [coreStep, State.selectOp, State.selector, h, decode_sw_word]

theorem coreStep_motion {s : State} (h : s.phase = .motion) (pick : Option SnapReg) :
    coreStep pick s = runOp s.motionState.instr s := by
  simp [coreStep, State.selectOp, State.selector, h]

theorem coreStep_profiler_adopt {s : State} (h : s.phase = .profiler) (hm : s.mode = s.params.modePos)
    (hp : s.cmdPending = true) (pick : Option SnapReg) : coreStep pick s = runOp .mpAdopt s := by
  simp [coreStep, State.selectOp, State.selector, h, hm, hp]

theorem coreStep_profiler_motion {s : State} (h : s.phase = .profiler) (hm : s.mode = s.params.modePos)
    (hp : s.cmdPending = false) (pick : Option SnapReg) :
    coreStep pick s = runOp s.motionState.instr s := by
  simp [coreStep, State.selectOp, State.selector, h, hm, hp]

theorem coreStep_profiler_velocity {s : State} (h : s.phase = .profiler)
    (hm : s.mode ≠ s.params.modePos) (pick : Option SnapReg) : coreStep pick s = runOp .mpVel s := by
  simp [coreStep, State.selectOp, State.selector, h, hm]

theorem coreStep_outputs {s : State} (h : s.phase = .outputs) (pick : Option SnapReg) :
    coreStep pick s = .next { s.profilerOutputs with phase := .publish SnapReg.all } := by
  simp [coreStep, State.selectOp, State.selector, State.phaseStep, h]

theorem coreStep_publish {s : State} {r : SnapReg} {rest : List SnapReg}
    (h : s.phase = .publish (r :: rest)) (pick : Option SnapReg) :
    coreStep pick s = .next { s.storeSnap (nextSnap pick r rest) with
      phase := if (r :: rest).filter (fun x => x != nextSnap pick r rest) = [] then .stopCheck
        else .publish ((r :: rest).filter fun x => x != nextSnap pick r rest) } := by
  simp only [coreStep, State.selectOp, State.selector, State.phaseStep, h]
  simp

theorem coreStep_publish_nil {s : State} (h : s.phase = .publish []) (pick : Option SnapReg) :
    coreStep pick s = .next { s with phase := .stopCheck } := by
  simp [coreStep, State.selectOp, State.selector, State.phaseStep, h]

theorem coreStep_stopCheck {s : State} (h : s.phase = .stopCheck) (pick : Option SnapReg) :
    coreStep pick s = .next { s.stopCheck with phase := .idle } := by
  simp [coreStep, State.selectOp, State.selector, State.phaseStep, h]

/-- An operation run as a step of the tick: its own next state, and the tick goes on. -/
theorem runOp_next {i : Instr} {s t : State} (h : runOp i s = .next t) :
    ∃ u, exec i s = .next u ∧ t = { u with phase := nextPhase i s.phase u } := by
  unfold runOp at h
  split at h
  · rename_i u hu
    exact ⟨u, hu, by injection h with h; exact h.symm⟩
  · cases h
  · cases h

/-- The core's step is always a next state. -/
theorem coreStep_completes (pick : Option SnapReg) (s : State) : ∃ t, coreStep pick s = .next t := by
  unfold coreStep
  split
  · rename_i i _
    obtain ⟨u, hu⟩ := exec_completes i s
    exact ⟨_, by simp [runOp, hu]; rfl⟩
  · exact ⟨_, rfl⟩

/-- What a step of the core can do: run the operation selected at this point of the tick, or do the
phase that is no operation. -/
theorem coreStep_cases {pick : Option SnapReg} {s t : State} (h : coreStep pick s = .next t) :
    (∃ i u, s.selectOp = some i ∧ exec i s = .next u ∧
      t = { u with phase := nextPhase i s.phase u }) ∨
    (s.selectOp = none ∧ t = s.phaseStep pick) := by
  unfold coreStep at h
  split at h
  · rename_i i hi
    obtain ⟨u, hu, ht⟩ := runOp_next h
    exact .inl ⟨i, u, hi, hu, ht⟩
  · rename_i hn
    injection h with h
    exact .inr ⟨hn, h.symm⟩

/-! ### Whose turn it is -/

/-- What a step can do: the core goes on with its tick by itself (no stimulus is left, or the next one
waits), or the next stimulus takes effect. -/
theorem step_cases {s t : State} (h : step s = .next t) :
    (coreStep none s = .next t ∧
      (s.inputs = [] ∨ ∃ x rest, s.inputs = x :: rest ∧ s.phase ≠ .idle ∧ x.waits = true)) ∨
    (∃ x rest, s.inputs = x :: rest ∧ (s.phase = .idle ∨ x.waits = false) ∧
      perform x { s with inputs := rest } = .next t) := by
  unfold step turn at h
  split at h
  · rename_i hi
    exact .inl ⟨h, .inl hi⟩
  · rename_i x rest hi
    split at h
    · rename_i hc
      exact .inl ⟨h, .inr ⟨x, rest, hi, hc.1, hc.2⟩⟩
    · rename_i hc
      refine .inr ⟨x, rest, hi, ?_, h⟩
      by_cases hp : s.phase = .idle
      · exact .inl hp
      · right
        cases hw : x.waits
        · rfl
        · exact absurd ⟨hp, hw⟩ hc

/-- A host access is always a next state. -/
theorem access_completes (a : Access) (s : State) : ∃ t, access a s = .next t := by
  cases a with
  | read n => exact ⟨_, rfl⟩
  | write n w =>
    simp only [access, hostWrite]
    split
    · simp only [doorbell]
      split
      · exact exec_completes _ _
      · exact ⟨_, rfl⟩
    · exact ⟨_, rfl⟩
    · exact ⟨_, rfl⟩

end Sys2Proof.Machine
end

