-- ==== Sys2Proof/Tests/Slice0.lean ====
section
/-! SUPPORT. The model's own tests. Expected values come from the spec's encodings, the "Example" lines of
its rules and spec/95_test_vectors.md, named in each comment. The last part shows, for every statement
with hypotheses, a concrete state and operands that meet them. -/

namespace Sys2Proof.Tests

open Sys2Proof Sys2Proof.Machine

/-! ### WellFormed: one ill-formed term for each check (00_scope.md R5, R6) -/

theorem test_wf_reference : Params.reference.legal = true := by decide

theorem test_wf_refuses_tick_0 : { Params.reference with tickHz := 0 }.legal = false := by decide

theorem test_wf_refuses_tick_10001 : { Params.reference with tickHz := 10001 }.legal = false := by decide

theorem test_wf_refuses_tick_3 : { Params.reference with tickHz := 3 }.legal = false := by decide

theorem test_wf_tick_bounds :
    { Params.reference with tickHz := 1 }.legal = true ∧
      { Params.reference with tickHz := 10000 }.legal = true := by decide

theorem test_wf_refuses_tolerance : { Params.reference with posTol := 2147483648 }.legal = false := by
  decide

theorem test_wf_tolerance_bounds :
    { Params.reference with posTol := 0 }.legal = true ∧
      { Params.reference with posTol := 2147483647 }.legal = true := by decide

theorem test_wf_refuses_ack_masks :
    [0x0000, 0x0001, 0x0002, 0x0004, 0x0008, 0x0080, 0x0030].map
      (fun m => { Params.reference with ackMask := m }.legal) = List.replicate 7 false := by decide

theorem test_wf_refuses_equal_modes : { Params.reference with modeVel := 8 }.legal = false := by decide

/-- 30 R60: "Four more operations have no selector word". -/
theorem test_wf_triggered_operations :
    [Instr.mpOrigin, .mpAbort, .mpAdopt, .mpVel].map Instr.hasSelector = List.replicate 4 false := by
  decide

/-! ### Decode: words written out from the rows of 30 R62, R67, R68, R70 -/

/-- 0000 0010 0001 1000: bit 3 set (95 V-DS-5). -/
theorem test_decode_dsFault :
    decode .sw 0b0000001000011000 = .ok .dsFault ∧ decodeTableWord 16 0x0008 = some .dsFault := ⟨rfl, rfl⟩

/-- 0000 0010 0101 0000: bit 6 set, bits 3 and 2 to 0 clear. -/
theorem test_decode_dsSod :
    decode .sw 0b0000001001010000 = .ok .dsSod ∧ decodeTableWord 16 0x0040 = some .dsSod := ⟨rfl, rfl⟩

/-- 0000 0010 0011 0001: bit 5 set, bit 6 clear, low bits 001. -/
theorem test_decode_dsRtso :
    decode .sw 0b0000001000110001 = .ok .dsRtso ∧ decodeTableWord 16 0x0021 = some .dsRtso := ⟨rfl, rfl⟩

/-- 0000 0010 0011 0011: low bits 011. -/
theorem test_decode_dsSon :
    decode .sw 0b0000001000110011 = .ok .dsSon ∧ decodeTableWord 16 0x0023 = some .dsSon := ⟨rfl, rfl⟩

/-- 0000 0010 0011 0111: low bits 111. -/
theorem test_decode_dsOpen :
    decode .sw 0b0000001000110111 = .ok .dsOpen ∧ decodeTableWord 16 0x0027 = some .dsOpen := ⟨rfl, rfl⟩

/-- 0000 0000 0000 0111: bit 5 clear (40 R87). -/
theorem test_decode_dsNrdy :
    decode .sw 0b0000000000000111 = .ok .dsNrdy ∧ decodeTableWord 16 0x0000 = some .dsNrdy := ⟨rfl, rfl⟩

theorem test_decode_mpIdle : decode .ms 0b00 = .ok .mpIdle ∧ decodeTableWord 8 0 = some .mpIdle := ⟨rfl, rfl⟩

theorem test_decode_mpAcc : decode .ms 0b01 = .ok .mpAcc ∧ decodeTableWord 8 1 = some .mpAcc := ⟨rfl, rfl⟩

theorem test_decode_mpCru : decode .ms 0b10 = .ok .mpCru ∧ decodeTableWord 8 2 = some .mpCru := ⟨rfl, rfl⟩

theorem test_decode_mpDec : decode .ms 0b11 = .ok .mpDec ∧ decodeTableWord 8 3 = some .mpDec := ⟨rfl, rfl⟩

/-- The triggered operations have no word (30 R60). -/
theorem test_encode_triggered :
    encode .mpOrigin = none ∧ encode .mpAbort = none ∧ encode .mpAdopt = none ∧ encode .mpVel = none := by
  decide

theorem test_decode_bsWait : decode .bs 0b00 = .ok .bsWait := rfl

theorem test_decode_bsReq : decode .bs 0b01 = .ok .bsReq := rfl

theorem test_decode_bsOp : decode .bs 0b10 = .ok .bsOp := rfl

theorem test_decode_bsErr : decode .bs 0b11 = .ok .bsErr := rfl

theorem test_decode_hcStart :
    decode .hc 0x00000001 = .ok .hcStart ∧ decodeTableWord 32 0x01 = some .hcStart := ⟨rfl, rfl⟩

/-- Bits 31:8 are ignored (30 R70; 95 V-HC-13). -/
theorem test_decode_hcStop :
    decode .hc 0xFFFFFF02 = .ok .hcStop ∧ decodeTableWord 32 0x02 = some .hcStop := ⟨rfl, rfl⟩

theorem test_decode_hcMoveAbs :
    decode .hc 0x00000010 = .ok .hcMoveAbs ∧ decodeTableWord 32 0x10 = some .hcMoveAbs := ⟨rfl, rfl⟩

theorem test_decode_hcMoveRel :
    decode .hc 0x00000011 = .ok .hcMoveRel ∧ decodeTableWord 32 0x11 = some .hcMoveRel := ⟨rfl, rfl⟩

theorem test_decode_hcSetVel :
    decode .hc 0x00000012 = .ok .hcSetVel ∧ decodeTableWord 32 0x12 = some .hcSetVel := ⟨rfl, rfl⟩

/-- 30 R72: any other opcode is reserved. -/
theorem test_decode_refuses :
    decode .hc 0x00000013 = .error (.reservedOpcode 0x13) ∧
      decode .hc 0x00000100 = .error (.reservedOpcode 0x00) ∧ decodeTableWord 32 0x13 = none ∧
      decodeTableWord 24 0x10 = none := ⟨rfl, rfl, rfl, rfl⟩

/-! ### Records -/

/-- Writing the value an unlisted byte reads as removes the entry; cells stay in order. -/
theorem test_memory_canonical :
    Memory.storeLE [] 2 4 1000 = [(2, 0xE8#8), (3, 0x03#8)] ∧
      Memory.storeLE [(2, 0xE8#8), (3, 0x03#8)] 2 4 0 = [] ∧
      Memory.storeLE [(6, 1#8)] 0 2 0x0F00 = [(1, 0x0F#8), (6, 1#8)] := by decide

/-- The check refuses a listed zero, a falling offset and an offset beyond the record. -/
theorem test_memory_ill_formed :
    Memory.wf 17 [(2, 0#8)] = false ∧ Memory.wf 17 [(3, 1#8), (2, 1#8)] = false ∧
      Memory.wf 17 [(17, 1#8)] = false ∧ Memory.wf 17 [(16, 1#8)] = true := by decide

/-! ### States for one step -/

/-- An input record with a status word and an actual position. -/
def input (sw : Half) (apos : Int) : Memory :=
  { InRecord.zero with statusWord := sw, actualPosition := BitVec.ofInt 32 apos }.toMemory

/-- Running in position mode, bus Operational, drive enabled at origin 1000 (95 program P1). -/
def enabled : State :=
  { State.reset with
    runState := .running, busState := .operational, driveOp := true, mode := 8, expectedWkc := 3,
    posRef := 250000000, pdoIn := input 0x0237 1000 }

/-- The running example of 41_motion_profiler.md: target 1600, `vmax` 50,000, `acc` 5,000,000. -/
def moving (m : MotionState) (v p : Int) : State :=
  { enabled with
    motionState := m, tgt := 1600, vmax := 50000, acc := 5000000, velRef := BitVec.ofInt 64 v,
    posRef := BitVec.ofInt 64 p }

/-- A tick's answers. -/
def answers (sw : Half) (apos : Int) (wkc : Word) (sync op err : Bool) : TickInput :=
  { record := { InRecord.zero with statusWord := sw, actualPosition := BitVec.ofInt 32 apos },
    wkc := wkc, dcSynced := sync, busIsOp := op, busIsErr := err }

/-- The next state, if there is one. -/
def nextOf (r : Host.Outcome State Fault Refusal) : Option State :=
  match r with
  | .next t => some t
  | .fault _ => none
  | .refused _ => none

/-- What a projection of the next state gives. -/
def see {α : Type} (i : Instr) (s : State) (f : State → α) : Option α := (nextOf (exec i s)).map f

/-! ### One operation each, from the "Example" lines of its rule -/

/-- 40 R82 Example. -/
theorem test_dsFault :
    see .dsFault { enabled with pdoIn := input 0x0218 1000 } (fun t =>
      (t.readOut .controlWord, t.readOut .targetPosition, t.readOut .targetVelocity, t.driveOp, t.fault,
        t.motionState, t.trace)) =
      some (0x0080, 1000, 0, false, true, .idle, [.event (.driveFault 0x0218)]) := rfl

/-- 40 R83 Example: bytes FB FF FF FF at offsets 2 to 5. -/
theorem test_dsSod :
    see .dsSod { enabled with pdoIn := input 0x0250 (-5), fault := true } (fun t =>
      (t.readOut .controlWord, (List.range 8).map t.pdoOut.read, t.fault)) =
      some (0x0006, [0x06, 0x00, 0xFB, 0xFF, 0xFF, 0xFF, 0x00, 0x00], false) := rfl

/-- 40 R84 Example. -/
theorem test_dsRtso :
    see .dsRtso enabled (fun t => (t.readOut .controlWord, t.driveOp)) = some (0x0007, false) := rfl

/-- 40 R85. -/
theorem test_dsSon :
    see .dsSon enabled (fun t => (t.readOut .controlWord, t.driveOp)) = some (0x000F, false) := rfl

/-- 40 R86 Example. -/
theorem test_dsOpen :
    see .dsOpen { enabled with driveOp := false, posRef := 7 } (fun t => (t.posRef, t.driveOp, t.pdoOut)) =
      some (250000000, true, []) := rfl

/-- 40 R86: no new origin without a rising edge. -/
theorem test_dsOpen_no_edge :
    see .dsOpen { enabled with posRef := 7 } (fun t => (t.posRef, t.driveOp)) = some (7, true) := rfl

/-- 40 R87 Example. -/
theorem test_dsNrdy :
    see .dsNrdy enabled (fun t => (t.readOut .controlWord, t.readOut .targetPosition)) =
      some (0x0000, 1000) := rfl

/-- 40 R89 Example. -/
theorem test_mpOrigin :
    see .mpOrigin { enabled with pdoIn := input 0x0237 (-3) } (fun t => t.posRef.toInt) =
      some (-750000) := rfl

/-- 41 R109. -/
theorem test_mpIdle : exec .mpIdle enabled = .next enabled := rfl

/-- 41 R106 Example, tick 1. -/
theorem test_mpAcc :
    see .mpAcc (moving .accelerating 0 250000000) (fun t => (t.motionState, t.velRef, t.posRef)) =
      some (.accelerating, 5000000, 255000000) := rfl

/-- 41 R106 Example, tick 6. -/
theorem test_mpAcc_cruising :
    see .mpAcc (moving .accelerating 25000000 325000000) (fun t => (t.motionState, t.velRef, t.posRef)) =
      some (.cruising, 25000000, 350000000) := rfl

/-- 41 R107 Example, tick 7. -/
theorem test_mpCru :
    see .mpCru (moving .cruising 25000000 350000000) (fun t => (t.motionState, t.velRef, t.posRef)) =
      some (.decelerating, 20000000, 370000000) := rfl

/-- 41 R107, R217: past the target and not near, the velocity reverses (95 V-MP-9). -/
theorem test_mpCru_reverses :
    see .mpCru { moving .cruising 500000 2500500000 with tgt := 10001, vmax := 1000, acc := 1000000000 }
      (fun t => (t.motionState, t.velRef.toInt, t.posRef)) = some (.cruising, -500000, 2500000000) := rfl

/-- 41 R108 Example, tick 8. -/
theorem test_mpDec :
    see .mpDec (moving .decelerating 20000000 370000000) (fun t => (t.motionState, t.velRef, t.posRef)) =
      some (.decelerating, 15000000, 385000000) := rfl

/-- 41 R108 Example, tick 9: inside the tolerance band. -/
theorem test_mpDec_arrives :
    see .mpDec (moving .decelerating 15000000 385000000) (fun t => (t.motionState, t.velRef, t.posRef)) =
      some (.idle, 0, 400000000) := rfl

/-- 41 R112. -/
theorem test_mpAbort :
    see .mpAbort { moving .cruising 25000000 350000000 with velActive := true } (fun t =>
      (t.motionState, t.velRef, t.velActive, t.posRef)) = some (.idle, 0, false, 350000000) := rfl

/-- 41 R103 Example, the MOVE_REL form. -/
theorem test_mpAdopt :
    see .mpAdopt { enabled with
        cmdPending := true, pendKind := .relative, pendTarget := 600, pendVmax := 50000, pendAcc := 5000000 }
      (fun t => (t.tgt, t.vmax, t.acc, t.motionState, t.ack, t.cmdPending)) =
      some (1600, 50000, 5000000, .accelerating, true, false) := rfl

/-- 41 R103: both sums saturate, and the base is the floor of a negative position. -/
theorem test_mpAdopt_saturates :
    see .mpAdopt { enabled with
        cmdPending := true, pendKind := .relative, pendTarget := 0x80000000, posRef := BitVec.ofInt 64 (-1) }
      (fun t => t.tgt) = some 0x80000000 := rfl

/-- 41 R113 Example: bytes E0 B1 FF FF at offsets 6 to 9. -/
theorem test_mpVel :
    see .mpVel { enabled with
        mode := 9, cmdPending := true, pendKind := .velocity, pendTarget := BitVec.ofInt 32 (-20000) }
      (fun t => ([6, 7, 8, 9].map t.pdoOut.read, t.readOut .targetPosition, t.velActive, t.cmdPending)) =
      some ([0xE0, 0xB1, 0xFF, 0xFF], 1000, true, false) := rfl

/-- 41 R113: nothing adopted yet, target velocity 0 though `vel_cmd` holds a value. -/
theorem test_mpVel_inactive :
    see .mpVel { enabled with mode := 9, velCmd := 77 } (fun t => t.readOut .targetVelocity) = some 0 := rfl

/-- 41 R111 Example: the floor of a negative position; R114 with `ack = 1`. -/
theorem test_outputs :
    (let t := { enabled with posRef := BitVec.ofInt 64 (-5000001), ack := true }.profilerOutputs
     (BitVec.ofNat 32 (t.readOut .targetPosition)).toInt = -21 ∧ t.readOut .controlWord = 0x001F) := ⟨rfl, rfl⟩

/-- 43 R162 Example: `sync=1 err=0`. -/
theorem test_bsWait :
    see .bsWait { enabled with
        busState := .waitingForClockSync, tickIn := answers 0 0 3 true false false }
      (fun t => (t.busState, t.trace)) = some (.requestingOperational, [.request .op]) := rfl

/-- 43 R162 Example: `sync=1 err=1`. -/
theorem test_bsWait_error :
    see .bsWait { enabled with busState := .waitingForClockSync, tickIn := answers 0 0 3 true false true }
      (fun t => (t.busState, t.shutdown, t.trace)) = some (.error, true, [.event .busError]) := rfl

/-- 43 R163 Example: `op=1 err=0`. -/
theorem test_bsReq :
    see .bsReq { enabled with busState := .requestingOperational, tickIn := answers 0 0 3 false true false }
      (fun t => (t.busState, t.shutdown)) = some (.operational, false) := rfl

/-- 43 R163 Example: `op=1 err=1`. -/
theorem test_bsReq_error :
    see .bsReq { enabled with busState := .requestingOperational, tickIn := answers 0 0 3 false true true }
      (fun t => (t.busState, t.shutdown)) = some (.error, true) := rfl

/-- 43 R164 Example: an error is not noticed. -/
theorem test_bsOp :
    see .bsOp { enabled with tickIn := answers 0 0 3 true true true } (fun t => (t.busState, t.shutdown)) =
      some (.operational, false) := rfl

/-- 43 R165. -/
theorem test_bsErr : exec .bsErr { enabled with busState := .error } =
    .next { enabled with busState := .error } := rfl

/-- 44 R171 Example: `MODE = 8`, `now = 5,000,000`. -/
theorem test_hcStart :
    see .hcStart { State.reset with mode := 8, now := 5000000 } (fun t =>
      (t.pdoOut, t.nextWake, t.runState, t.result)) = some ([(12, 8#8)], 7000000, .running, 0) := rfl

/-- 44 R171 Example: `MODE = 0`. -/
theorem test_hcStart_refused : exec .hcStart State.reset = .next { State.reset with result := 3 } := rfl

/-- 44 R172. -/
theorem test_hcStop : see .hcStop enabled (fun t => (t.shutdown, t.result)) = some (true, 0) := rfl

/-- 44 R173 Example. -/
theorem test_hcMoveAbs :
    see .hcMoveAbs { enabled with cmdTarget := 1600, cmdVmax := 50000, cmdAccel := 5000000 } (fun t =>
      (t.result, t.cmdPending, t.pendKind, t.pendTarget, t.pendVmax, t.pendAcc)) =
      some (0, true, .absolute, 1600, 50000, 5000000) := rfl

/-- 44 R180, 60 R195: a zero acceleration is refused and nothing is pending. -/
theorem test_hcMoveAbs_invalid :
    see .hcMoveAbs { enabled with cmdTarget := 1600, cmdVmax := 50000 } (fun t =>
      (t.result, t.cmdPending, t.trace)) = some (1, false, [.event .invalidCommand]) := rfl

/-- 44 R174 Example. -/
theorem test_hcMoveRel :
    see .hcMoveRel { enabled with
        cmdTarget := BitVec.ofInt 32 (-600), cmdVmax := 50000, cmdAccel := 5000000 } (fun t =>
      (t.result, t.pendKind, t.pendTarget.toInt)) = some (0, .relative, -600) := rfl

/-- 44 R180: bit 31 set reads as negative. -/
theorem test_hcMoveRel_invalid :
    see .hcMoveRel { enabled with cmdVmax := 0x80000000, cmdAccel := 1 } (fun t => t.result) = some 1 := rfl

/-- 44 R175 Example. -/
theorem test_hcSetVel :
    see .hcSetVel { enabled with mode := 9, cmdTarget := BitVec.ofInt 32 (-20000) } (fun t =>
      (t.result, t.pendTarget.toInt, t.pendKind)) = some (0, -20000, .velocity) := rfl

/-- 44 R175: refused in position mode. -/
theorem test_hcSetVel_wrong_mode : see .hcSetVel enabled (fun t => (t.result, t.cmdPending)) =
    some (4, false) := rfl

/-- The word of a table row, placed, is run by the very next step (16-, 32- and 8-bit rows). -/
theorem test_withFetchWord :
    (nextOf (step (State.reset.withFetchWord 16 0x0008))).map (fun t => (t.fault, t.readOut .controlWord)) =
        some (true, 0x0080) ∧
      (nextOf (step (State.reset.withFetchWord 32 0x02))).map (fun t => (t.shutdown, t.result)) =
        some (true, 0) ∧
      (nextOf (step (State.reset.withFetchWord 8 0x01))).map State.motionState = some .decelerating := ⟨rfl, rfl, rfl⟩

/-! ### Witnesses: a concrete state and operands that meet each statement's hypotheses -/

/-- Hypotheses of EveryWordOfARowDecodesToItsOperation: an operation without and one with a row. -/
theorem witness_EveryWordOfARowDecodesToItsOperation :
    Instr.mpAdopt.hasSelector = false ∧ Instr.dsSon.row = some (.sw, 0x006F, 0x0023) ∧
      (0x0233 : Word) &&& 0x006F = 0x0023 := ⟨rfl, rfl, rfl⟩

/-- Hypotheses of StatusDecodeClosedFormAndCensus: a word that matches a patterned row. -/
theorem witness_StatusDecodeClosedFormAndCensus :
    (0x0250 : Half) &&& 0x004F = 0x0040 ∧
      ((0x004F : Half), (0x0040 : Half)) ∈ [((0x0008 : Half), (0x0008 : Half)), (0x004F, 0x0040)] :=
  ⟨rfl, by decide⟩

/-- Hypothesis of StatusDecodeIgnoresBits4And7AndHighByte: two different words that agree on the mask. -/
theorem witness_StatusDecodeIgnoresBits4And7AndHighByte :
    (0x0237 : Half) &&& 0x006F = 0xFFB7 &&& 0x006F := rfl

/-- Hypotheses of DoorbellDecodesLowByte: each opcode with upper bits set, and reserved ones beside them. -/
theorem witness_DoorbellDecodesLowByte :
    [(0xFFFFFF01 : Word), 0x00000102, 0x80000010, 0x00000011, 0x00000112].map (fun w => w.toNat % 256) =
        [0x01, 0x02, 0x10, 0x11, 0x12] ∧
      [(0x00000100 : Word), 0x03, 0x0F, 0x13, 0xFFFFFFFF].map (fun w => w.toNat % 256) =
        [0x00, 0x03, 0x0F, 0x13, 0xFF] := ⟨rfl, rfl⟩

/-- Hypotheses of RecordsAreLittleEndian: the first and last byte of a field, and the bytes beside it. -/
theorem witness_RecordsAreLittleEndian : 0 < 4 ∧ 3 < 4 ∧ (1 < 2 ∨ 2 + 4 ≤ 1) ∧ (6 < 2 ∨ 2 + 4 ≤ 6) := by
  decide

/-- Hypotheses of EveryStepKeepsRecordsCanonical: a step that writes both records' neighbours. -/
theorem witness_EveryStepKeepsRecordsCanonical :
    (∃ t, step { enabled with phase := .drive } = .next t) ∧
      Memory.wf outSize enabled.pdoOut = true ∧ Memory.wf inSize enabled.pdoIn = true :=
  ⟨⟨_, rfl⟩, rfl, rfl⟩

/-- Hypotheses of ResetStepGivesResetState. -/
theorem witness_ResetStepGivesResetState :
    { enabled with inputs := [.reset] }.phase = .idle ∧
      { enabled with inputs := [.reset] }.inputs = .reset :: [] := ⟨rfl, rfl⟩

/-- Hypotheses of NotEnabledOperations: an operation of the list, and the first byte outside the fields. -/
theorem witness_NotEnabledOperations :
    (Instr.dsFault, (0x0080 : Half), true) ∈
      [(Instr.dsFault, (0x0080 : Half), true), (.dsSod, 0x0006, false), (.dsRtso, 0x0007, false),
        (.dsSon, 0x000F, false), (.dsNrdy, 0x0000, false)] ∧
      ∀ f ∈ [OutField.controlWord, .targetPosition, .targetVelocity],
        10 < OutField.offset f ∨ OutField.offset f + OutField.size f ≤ 10 := by decide

/-- Hypotheses of DsOpenTakesTheOriginOnARisingEdge, and both clauses. -/
theorem witness_DsOpenTakesTheOriginOnARisingEdge :
    enabled.params.legal = true ∧ enabled.driveOp = true ∧
      { enabled with driveOp := false }.params.legal = true ∧
      { enabled with driveOp := false }.driveOp = false := ⟨rfl, rfl, rfl, rfl⟩

/-- Hypotheses of DrivePhaseWritesFlagsAndControlWord: the phase, with a status word for each clause. -/
theorem witness_DrivePhaseWritesFlagsAndControlWord :
    { enabled with phase := .drive }.phase = .drive ∧
      [0x0218, 0x0250, 0x0231, 0x0233, 0x0237, 0x0007].map
        (fun sw => decodeStatus { enabled with phase := .drive, pdoIn := input sw 1000 }.statusWord) =
      [.fault, .switchOnDisabled, .readyToSwitchOn, .switchedOn, .operationEnabled, .notReady] :=
  ⟨rfl, rfl⟩

/-- Hypotheses of FaultExcludesDriveOperational. -/
theorem witness_FaultExcludesDriveOperational :
    (∃ t, step { enabled with phase := .drive, pdoIn := input 0x0218 1000 } = .next t) ∧
      ¬ (enabled.fault = true ∧ enabled.driveOp = true) := ⟨⟨_, rfl⟩, by decide⟩

/-- Hypotheses of FaultBitHoldsFaultReset: Operational before the tick, and reached in it. -/
theorem witness_FaultBitHoldsFaultReset :
    (enabled.busState = .operational ∧ (answers 0x023F 1000 3 true true false).record.statusWord.getLsbD 3 = true ∧
      ∃ t, wholeTick (answers 0x023F 1000 3 true true false) enabled = .next t) ∧
    ({ enabled with busState := .requestingOperational }.busState = .requestingOperational ∧
      (answers 0x0218 0 3 true true false).busIsErr = false ∧
      (answers 0x0218 0 3 true true false).busIsOp = true ∧
      ∃ t, wholeTick (answers 0x0218 0 3 true true false)
        { enabled with busState := .requestingOperational, driveOp := false } = .next t) :=
  ⟨⟨rfl, rfl, _, rfl⟩, rfl, rfl, rfl, _, rfl⟩

/-- Hypotheses of DrivePhaseRunsOnlyWhenOperational: the phase, and a state for each clause. -/
theorem witness_DrivePhaseRunsOnlyWhenOperational :
    { enabled with phase := .monitor }.phase = .monitor ∧
      (∃ t, coreStep none { enabled with phase := .monitor } = .next t ∧ t.busState = .operational) ∧
      ∃ t, coreStep none { enabled with phase := .monitor, busState := .waitingForClockSync } = .next t ∧
        t.busState ≠ .operational := ⟨rfl, ⟨_, rfl, rfl⟩, _, rfl, by decide⟩

/-- Hypotheses of MpAdoptTakesThePendingCommand: both kinds. -/
theorem witness_MpAdoptTakesThePendingCommand :
    enabled.pendKind ≠ .relative ∧ { enabled with pendKind := .relative }.pendKind = .relative :=
  ⟨by decide, rfl⟩

/-- Hypotheses of MpAccRampsUp: legal parameters, with a state for each branch; at
the target exactly (`near` at equality), at the limit exactly, and below both. -/
theorem witness_MpAccRampsUp :
    (moving .accelerating 0 400000000).params.legal = true ∧
      (moving .accelerating 0 400000000).near = true ∧
      (moving .accelerating 25000000 325000000).near = false ∧
      (moving .accelerating 25000000 325000000).atLimit = true ∧
      (moving .accelerating 24999999 325000000).near = false ∧
      (moving .accelerating 24999999 325000000).atLimit = false ∧
      (moving .accelerating 0 400000001).distance = -1 := ⟨rfl, rfl, rfl, rfl, rfl, rfl, rfl⟩

/-- Hypothesis of MpOriginSetsThePosition. -/
theorem witness_MpOriginSetsThePosition : enabled.params.legal = true := rfl

/-- Hypotheses of MpCruHoldsTheLimit: legal parameters, with a state for each branch and direction. -/
theorem witness_MpCruHoldsTheLimit :
    (moving .cruising 25000000 350000000).params.legal = true ∧
      (moving .cruising 25000000 350000000).near = true ∧
      (moving .cruising 25000000 325000000).near = false ∧
      (moving .cruising (-25000000) 475000000).near = false := ⟨rfl, rfl, rfl, rfl⟩

/-- Hypotheses of MpDecRampsDownOrArrives: the tolerance band is strict (41 R108 corner (b)). -/
theorem witness_MpDecRampsDownOrArrives :
    (moving .decelerating 5000000 375000000).params.legal = true ∧
      (moving .decelerating 5000000 375000000).arrived = false ∧
      (moving .decelerating 5000000 375000001).arrived = true ∧
      (moving .decelerating 0 250000000).arrived = true := ⟨rfl, rfl, rfl, rfl⟩

/-- Hypotheses of MpVelPassesTheVelocityThrough: the bytes beside the two fields. -/
theorem witness_MpVelPassesTheVelocityThrough :
    (∀ f ∈ [OutField.targetPosition, .targetVelocity],
      1 < OutField.offset f ∨ OutField.offset f + OutField.size f ≤ 1) ∧
    ∀ f ∈ [OutField.targetPosition, .targetVelocity],
      10 < OutField.offset f ∨ OutField.offset f + OutField.size f ≤ 10 := by decide

/-- Hypotheses of RampNeverExceedsOldSpeedOrLimit. -/
theorem witness_RampNeverExceedsOldSpeedOrLimit :
    Instr.mpAcc ∈ [Instr.mpAcc, .mpCru, .mpDec] ∧ (moving .accelerating 30000000 0).params.legal = true ∧
      ∃ t, exec .mpAcc (moving .accelerating 30000000 0) = .next t := ⟨by decide, rfl, _, rfl⟩

/-- Hypotheses of CruisingCannotStepOverTheTarget, toward the target from either side. -/
theorem witness_CruisingCannotStepOverTheTarget :
    ∀ s ∈ [moving .cruising 25000000 325000000, moving .cruising (-25000000) 475000000],
      s.params.legal = true ∧ 1 ≤ s.acc.toNat ∧
      2 * (s.acc.toNat : Int) ≤ (s.vmax.toNat : Int) * (s.params.tickHz : Int) ∧
      (s.velRef.toInt.natAbs : Int) = (s.vmax.toNat : Int) * (s.params.tickHz : Int) ∧
      s.motionState = .cruising ∧ (nextOf (exec .mpCru s)).map State.motionState = some .cruising ∧
      s.distance ≠ 0 := by decide

/-- Hypotheses of DeceleratingArrivesInBoundedTicks, at the least acceleration. -/
theorem witness_DeceleratingArrivesInBoundedTicks :
    { moving .decelerating 20000000 370000000 with acc := 1 }.params.legal = true ∧
      1 ≤ { moving .decelerating 20000000 370000000 with acc := 1 }.acc.toNat ∧
      { moving .decelerating 20000000 370000000 with acc := 1 }.motionState = .decelerating :=
  ⟨rfl, by decide, rfl⟩

/-- Hypotheses of EnabledOutputs: the phase in both modes, and the first byte outside the fields. -/
theorem witness_EnabledOutputs :
    { enabled with phase := .outputs }.phase = .outputs ∧ enabled.mode = enabled.params.modePos ∧
      { enabled with mode := 9 }.mode ≠ { enabled with mode := 9 }.params.modePos ∧
      ∀ f ∈ [OutField.controlWord, .targetPosition, .targetVelocity],
        10 < OutField.offset f ∨ OutField.offset f + OutField.size f ≤ 10 :=
  ⟨rfl, rfl, by decide, by decide⟩

/-- Hypotheses of FirstEnabledTickCommandsTheActualPosition. -/
theorem witness_FirstEnabledTickCommandsTheActualPosition :
    let s := { enabled with phase := .drive, driveOp := false }
    s.params.legal = true ∧ s.phase = .drive ∧ s.inputs = [] ∧ s.driveOp = false ∧ s.motionState = .idle ∧
      s.mode = s.params.modePos ∧ s.cmdPending = false ∧
      decodeStatus s.statusWord = .operationEnabled := ⟨rfl, rfl, rfl, rfl, rfl, rfl, rfl, rfl⟩

/-- Hypotheses of MotionStateTransitions: each way `motion_state` changes. -/
theorem witness_MotionStateTransitions :
    ([(moving .accelerating 25000000 325000000, MotionState.cruising),
      (moving .accelerating 0 400000000, .decelerating),
      (moving .cruising 25000000 350000000, .decelerating),
      (moving .decelerating 0 250000000, .idle)].map fun p =>
        (nextOf (step { p.1 with phase := .motion })).map State.motionState == some p.2) =
      [true, true, true, true] ∧
    (nextOf (step { enabled with phase := .profiler, cmdPending := true })).map State.motionState =
      some .accelerating ∧
    (nextOf (step { moving .cruising 25000000 350000000 with
      phase := .drive, pdoIn := input 0x0218 1000 })).map State.motionState = some .idle := ⟨rfl, rfl, rfl⟩

/-- Hypotheses of BusStateGraph: each edge. -/
theorem witness_BusStateGraph :
    ([(BusState.waitingForClockSync, false), (.waitingForClockSync, true), (.requestingOperational, false),
      (.requestingOperational, true)].map fun p =>
        (nextOf (step { enabled with
          phase := .monitor, busState := p.1, tickIn := answers 0 0 3 true true p.2 })).map State.busState) =
      [some .requestingOperational, some .error, some .operational, some .error] ∧
    (nextOf (step { enabled with inputs := [.reset] })).map State.busState = some .waitingForClockSync :=
  ⟨rfl, rfl⟩

/-- Hypotheses of BusErrorStopsTheLoopInItsTick. -/
theorem witness_BusErrorStopsTheLoopInItsTick :
    { enabled with busState := .waitingForClockSync }.busState = .waitingForClockSync ∧
      { enabled with busState := .requestingOperational }.busState = .requestingOperational ∧
      (answers 0 0 3 true true true).busIsErr = true := ⟨rfl, rfl, rfl⟩

/-- A state in the middle of a tick, cruising, that meets the invariant. -/
def midTick : State := { moving .cruising 25000000 350000000 with phase := .motion }

theorem witness_inv : midTick.Inv where
  paramsLegal := rfl
  outWf := rfl
  inWf := rfl
  disabledAtRest := by decide
  idleAtRest := by decide
  movingLimits := by decide
  errorShutsDown := by decide
  notOperational := by decide
  haltedAtReset := fun h => nomatch h
  pendingValid := fun h => nomatch h
  runningMode := fun _ => rfl
  tickRuns := fun _ => rfl
  driveOperational := fun _ => rfl
  profilerEnabled := fun _ => ⟨rfl, rfl⟩
  motionMode := fun _ => rfl
  vmaxRange := by decide
  velRange := by decide

/-- Hypotheses of EveryStepKeepsTheInvariant. -/
theorem witness_EveryStepKeepsTheInvariant : midTick.Inv ∧ ∃ t, step midTick = .next t :=
  ⟨witness_inv, _, rfl⟩

/-- Hypotheses of EveryStepKeepsRequestsOnce. -/
theorem witness_EveryStepKeepsRequestsOnce :
    midTick.Inv ∧ midTick.RequestsOnce ∧ ∃ t, step midTick = .next t :=
  ⟨witness_inv, ⟨by decide, (fun h => nomatch h), rfl⟩, _, rfl⟩

/-- Hypotheses of HcStartStartsTheLoop: refused by either check, accepted in both modes, and the last
time at which the wake time does not wrap. -/
theorem witness_HcStartStartsTheLoop :
    enabled.runState ≠ .halted ∧
      (State.reset.mode ≠ State.reset.params.modePos ∧ State.reset.mode ≠ State.reset.params.modeVel) ∧
      { State.reset with mode := 8 }.runState = .halted ∧
      { State.reset with mode := 8 }.mode = { State.reset with mode := 8 }.params.modePos ∧
      { State.reset with mode := 9 }.mode = { State.reset with mode := 9 }.params.modeVel ∧
      18446744073707551615 + 1000000000 / State.reset.params.tickHz < 2 ^ 64 := by decide

/-- Hypotheses of HcMovesSubmitOrRefuse. -/
theorem witness_HcMovesSubmitOrRefuse :
    (Instr.hcMoveRel, PendKind.relative) ∈
      [(Instr.hcMoveAbs, PendKind.absolute), (.hcMoveRel, .relative)] := by decide

/-- Hypotheses of ReservedDoorbellWritesResultOnly. -/
theorem witness_ReservedDoorbellWritesResultOnly :
    (0x13 : Word).toNat % 256 ∉ [0x01, 0x02, 0x10, 0x11, 0x12] ∧
      { enabled with inputs := [.host (.write 0 0x13)] }.phase = .idle ∧
      { enabled with inputs := [.host (.write 0 0x13)] }.inputs = .host (.write 0 0x13) :: [] :=
  ⟨by decide, rfl, rfl⟩

/-- Hypotheses of PlainWritesStoreOrAreIgnored: inside a tick and between ticks. -/
theorem witness_PlainWritesStoreOrAreIgnored :
    (4 ≠ 0 ∧ { midTick with inputs := [.hostInside (.write 4 7)] }.inputs =
      .hostInside (.write 4 7) :: []) ∧
    (19 ≠ 0 ∧ { enabled with inputs := [.host (.write 19 7)] }.phase = .idle ∧
      { enabled with inputs := [.host (.write 19 7)] }.inputs = .host (.write 19 7) :: []) :=
  ⟨⟨by decide, rfl⟩, by decide, rfl, rfl⟩

/-- Hypotheses of HostReadsReturnRegistersWithoutEffect: inside a tick and between ticks. -/
theorem witness_HostReadsReturnRegistersWithoutEffect :
    { midTick with inputs := [.hostInside (.read 18)] }.inputs = .hostInside (.read 18) :: [] ∧
      { enabled with inputs := [.host (.read 19)] }.phase = .idle ∧
      { enabled with inputs := [.host (.read 19)] }.inputs = .host (.read 19) :: [] := ⟨rfl, rfl, rfl⟩

/-- Hypotheses of PublishStoresTheSnapshotInAnyOrder. -/
theorem witness_PublishStoresTheSnapshotInAnyOrder :
    { enabled with phase := .publish SnapReg.all }.phase = .publish SnapReg.all ∧
      (List.replicate 8 (some SnapReg.mstate)).length = 8 := ⟨rfl, rfl⟩

/-- Hypotheses of StepsOfATickAreOneTransition. -/
theorem witness_StepsOfATickAreOneTransition :
    let s := { enabled with nextWake := 5, now := 5, inputs := [.tick .zero] }
    s.phase = .idle ∧ s.runState = .running ∧ s.nextWake.toNat ≤ s.now.toNat ∧ s.inputs = [.tick .zero] :=
  ⟨rfl, rfl, by decide, rfl⟩

/-- Hypotheses of GateOpensATickOrNothing, a nanosecond early and exactly due. -/
theorem witness_GateOpensATickOrNothing :
    let early := { enabled with nextWake := 2000000, now := 1999999, inputs := [.tick .zero] }
    let due := { enabled with nextWake := 2000000, now := 2000000, inputs := [.tick .zero] }
    (early.phase = .idle ∧ early.inputs = .tick .zero :: [] ∧
      ¬ (early.runState = .running ∧ early.nextWake.toNat ≤ early.now.toNat)) ∧
    (due.phase = .idle ∧ due.inputs = [.tick .zero] ∧ due.runState = .running ∧
      due.nextWake.toNat ≤ due.now.toNat) := by decide

/-- Hypotheses of ExchangeSendsReceivesAndChecks: the phase, with and without a shortfall. -/
theorem witness_ExchangeSendsReceivesAndChecks :
    { enabled with phase := .exchange, tickIn := answers 0 0 2 true true false }.phase = .exchange ∧
      { enabled with phase := .exchange, tickIn := answers 0 0 2 true true false }.wkcShort = true ∧
      { enabled with phase := .exchange, tickIn := answers 0 0 3 true true false }.wkcShort = false :=
  ⟨rfl, rfl, rfl⟩

/-- Hypotheses of StopCheckStopsTheLoop. -/
theorem witness_StopCheckStopsTheLoop :
    { enabled with phase := .stopCheck, shutdown := true }.phase = .stopCheck := rfl

/-- Hypotheses of EventsOfATickInPhaseOrder: a tick with both events that may coincide. -/
theorem witness_EventsOfATickInPhaseOrder :
    ∃ t, wholeTick (answers 0x0218 0 2 true true false) enabled = .next t := ⟨_, rfl⟩

/-- Hypotheses of CtrlWritesAndResetWaitForTheTick. -/
theorem witness_CtrlWritesAndResetWaitForTheTick :
    midTick.phase ≠ .idle ∧ { midTick with inputs := [.hostInside (.write 0 2)] }.inputs =
      .hostInside (.write 0 2) :: [] := ⟨by decide, rfl⟩

/-- Hypotheses of StepRunsTheDecodedOperation, one state for each clause. -/
theorem witness_StepRunsTheDecodedOperation :
    (midTick.selector = some (.ms, 2) ∧ decode .ms 2 = .ok .mpCru ∧ midTick.inputs = [] ∧
      ∃ u, exec .mpCru midTick = .next u) ∧
    ({ midTick with inputs := [.core none] }.selector = some (.ms, 2) ∧
      { midTick with inputs := [.core none] }.inputs = .core none :: []) ∧
    ({ enabled with inputs := [.host (.write 0 2)] }.phase = .idle ∧
      { enabled with inputs := [.host (.write 0 2)] }.inputs = .host (.write 0 2) :: [] ∧
      decode .hc 2 = .ok .hcStop) ∧
    ({ enabled with phase := .profiler, cmdPending := true }.phase = .profiler ∧
      enabled.mode = enabled.params.modePos ∧
      (∃ u, exec .mpAdopt { enabled with phase := .profiler, cmdPending := true } = .next u) ∧
      { enabled with mode := 9 }.mode ≠ { enabled with mode := 9 }.params.modePos ∧
      ∃ u, exec .mpVel { enabled with phase := .profiler, mode := 9 } = .next u) :=
  ⟨⟨rfl, rfl, rfl, _, rfl⟩, ⟨rfl, rfl⟩, ⟨rfl, rfl, rfl⟩, rfl, rfl, ⟨_, rfl⟩, by decide, _, rfl⟩

/-- Hypotheses of NoAgentWritesTheOthersRegisters. -/
theorem witness_NoAgentWritesTheOthersRegisters :
    (∃ t, coreStep none midTick = .next t) ∧
      ∃ t, access (.write 0 1) { State.reset with mode := 8 } = .next t ∧ t.runState ≠ .halted :=
  ⟨⟨_, rfl⟩, _, rfl, by decide⟩

/-- Hypotheses of StoppedIsLeftOnlyByReset: START after Stopped. -/
theorem witness_StoppedIsLeftOnlyByReset :
    let s := { enabled with runState := .stopped, inputs := [.host (.write 0 1)] }
    s.runState = .stopped ∧ s.phase = .idle ∧ (∀ rest, s.inputs ≠ .reset :: rest) ∧
      ∃ t, step s = .next t := ⟨rfl, rfl, (fun _ h => nomatch h), _, rfl⟩

/-- Hypotheses of OnlyResetClearsShutdownOnlyAdoptionOrResetChangesAck: each clause. -/
theorem witness_OnlyResetClearsShutdownOnlyAdoptionOrResetChangesAck :
    (∃ t, step { enabled with shutdown := true, inputs := [.reset] } = .next t ∧ t.shutdown = false) ∧
      ∃ t, step { enabled with phase := .profiler, cmdPending := true } = .next t ∧ t.ack ≠ enabled.ack :=
  ⟨⟨_, rfl, rfl⟩, _, rfl, by decide⟩

/-- Hypotheses of EveryStepAnswersUnlessTimeGoesBack: the same time again, and a nanosecond less. -/
theorem witness_EveryStepAnswersUnlessTimeGoesBack :
    (∀ u rest, { enabled with now := 5, inputs := [.advance 5] }.inputs = .advance u :: rest →
      { enabled with now := 5 }.now.toNat ≤ u.toNat) ∧
    ({ enabled with now := 5, inputs := [.advance 4] }.phase = .idle ∧ (4 : Dword).toNat < (5 : Dword).toNat) :=
  ⟨fun u rest h => by injection h with h; injection h with h; subst h; decide, rfl, by decide⟩

/-- Hypotheses of ParametersFixedAndTimeNeverDecreases. -/
theorem witness_ParametersFixedAndTimeNeverDecreases :
    ∃ t, step { enabled with inputs := [.advance 5] } = .next t := ⟨_, rfl⟩

end Sys2Proof.Tests
end

section
/-! PROOFS. What a step can do, as two relations: `CoreMove`, the core's step by its point of the tick
(42_cyclic_scheduler.md R142, 41_motion_profiler.md R117), and `Move`, every step but a reset. Each is
tied to the model by an inversion lemma (`coreStep_move`, `step_move`), and every later proof about
steps is a case analysis of a move. -/

namespace Sys2Proof.Machine

/-! ### What each group of operations may write -/

/-- A BS operation writes `bus_state`, `shutdown` and the outputs only. -/
theorem exec_bus_frame {b : BusState} {s u : State} (h : exec b.instr s = .next u) :
    u = { s with busState := u.busState, shutdown := u.shutdown, trace := u.trace } ∧
      (s.shutdown = true → u.shutdown = true) := by
  cases b <;> simp only [BusState.instr, exec, execBsWait, execBsReq, execBsOp, execBsErr] at h <;>
    (repeat' split at h) <;> injection h with h <;> subst h
  case waitingForClockSync.isTrue | requestingOperational.isTrue => exact ⟨rfl, fun _ => rfl⟩
  all_goals exact ⟨rfl, id⟩

/-- A DS operation writes the two flags, the motion registers that MP.ORIGIN and MP.ABORT write,
`PDO_OUT` and the outputs only. -/
theorem exec_drive_frame {d : DriveState} {s u : State} (h : exec d.instr s = .next u) :
    u = { s with
      fault := u.fault, driveOp := u.driveOp, posRef := u.posRef, motionState := u.motionState,
      velRef := u.velRef, velActive := u.velActive, pdoOut := u.pdoOut, trace := u.trace } := by
  cases d <;> simp only [DriveState.instr, exec, execDsFault, execDsSod, execDsRtso, execDsSon, execDsOpen,
    execDsNrdy] at h <;> injection h with h <;> subst h
  case fault => simp [State.notEnabled_eq, State.push]
  case operationEnabled => split <;> simp [State.takeOrigin, State.setFault]
  all_goals simp [State.notEnabled_eq]

/-- An operation that `motion_state` selects writes `pos_ref`, `vel_ref` and `motion_state` only. -/
theorem exec_motion_frame {m : MotionState} {s u : State} (h : exec m.instr s = .next u) :
    u = { s with posRef := u.posRef, velRef := u.velRef, motionState := u.motionState } := by
  cases m <;> simp only [MotionState.instr, exec, execMpIdle, execMpAcc, execMpCru, execMpDec] at h <;>
    (repeat' split at h) <;> injection h with h <;> subst h <;> rfl

/-! ### The core -/

/-- One step of the core, by the point of the tick at which it stands. -/
inductive CoreMove (s : State) : State → Prop where
  /-- between ticks nothing moves -/
  | idle : s.phase = .idle → CoreMove s s
  /-- phase 1 -/
  | exchange : s.phase = .exchange → CoreMove s { s.exchange.wkcCheck with phase := .monitor }
  /-- phase 2: the operation `bus_state` selects -/
  | monitor (u : State) : s.phase = .monitor → exec s.busState.instr s = .next u →
      CoreMove s
        { u with phase := if u.busState = .operational then .drive else .publish SnapReg.all }
  /-- phase 3: the operation the status word selects -/
  | drive (u : State) : s.phase = .drive → exec (decodeStatus s.statusWord).instr s = .next u →
      CoreMove s { u with phase := if u.driveOp then .profiler else .publish SnapReg.all }
  /-- phase 4: the adoption of a pending position command -/
  | adopt (u : State) : s.phase = .profiler → s.mode = s.params.modePos → s.cmdPending = true →
      exec .mpAdopt s = .next u → CoreMove s { u with phase := .motion }
  /-- phase 4: the operation `motion_state` selects -/
  | motion (u : State) : s.phase = .motion ∨ s.phase = .profiler →
      exec s.motionState.instr s = .next u → CoreMove s { u with phase := .outputs }
  /-- phase 4 in velocity mode -/
  | velocity (u : State) : s.phase = .profiler → exec .mpVel s = .next u →
      CoreMove s { u with phase := .outputs }
  /-- the end of phase 4 -/
  | outputs : s.phase = .outputs →
      CoreMove s { s.profilerOutputs with phase := .publish SnapReg.all }
  /-- phase 6: one store, and the tick goes on with the registers left or with the stop check -/
  | publish (l : List SnapReg) (r : SnapReg) (p : Phase) : s.phase = .publish l →
      (p = .stopCheck ∨ ∃ l', p = .publish l') → CoreMove s { s.storeSnap r with phase := p }
  /-- phase 6 with nothing left to store -/
  | published : s.phase = .publish [] → CoreMove s { s with phase := .stopCheck }
  /-- phase 7 -/
  | stopCheck : s.phase = .stopCheck → CoreMove s { s.stopCheck with phase := .idle }

/-- The operation a motion state selects is none of the triggered ones. -/
theorem MotionState.instr_ne_mpAdopt (m : MotionState) : m.instr ≠ .mpAdopt := by
  cases m <;> decide

/-- Every step of the core is one of the moves. -/
theorem coreStep_move {pick : Option SnapReg} {s t : State} (h : coreStep pick s = .next t) :
    CoreMove s t := by
  cases hp : s.phase with
  | idle => rw [coreStep_idle hp] at h; injection h with h; subst h; exact .idle hp
  | exchange => rw [coreStep_exchange hp] at h; injection h with h; subst h; exact .exchange hp
  | monitor =>
    rw [coreStep_monitor hp] at h
    obtain ⟨u, hu, rfl⟩ := runOp_next h
    rw [hp]; exact .monitor u hp hu
  | drive =>
    rw [coreStep_drive hp] at h
    obtain ⟨u, hu, rfl⟩ := runOp_next h
    rw [hp]; exact .drive u hp hu
  | profiler =>
    by_cases hm : s.mode = s.params.modePos
    · cases hc : s.cmdPending with
      | true =>
        rw [coreStep_profiler_adopt hp hm hc] at h
        obtain ⟨u, hu, rfl⟩ := runOp_next h
        rw [hp]; exact .adopt u hp hm hc hu
      | false =>
        rw [coreStep_profiler_motion hp hm hc] at h
        obtain ⟨u, hu, rfl⟩ := runOp_next h
        rw [hp, nextPhase, if_neg (MotionState.instr_ne_mpAdopt _)]
        exact .motion u (.inr hp) hu
    · rw [coreStep_profiler_velocity hp hm] at h
      obtain ⟨u, hu, rfl⟩ := runOp_next h
      rw [hp]; exact .velocity u hp hu
  | motion =>
    rw [coreStep_motion hp] at h
    obtain ⟨u, hu, rfl⟩ := runOp_next h
    rw [hp]; exact .motion u (.inl hp) hu
  | outputs => rw [coreStep_outputs hp] at h; injection h with h; subst h; exact .outputs hp
  | publish l =>
    cases l with
    | nil => rw [coreStep_publish_nil hp] at h; injection h with h; subst h; exact .published hp
    | cons r rest =>
      rw [coreStep_publish hp] at h; injection h with h; subst h
      refine .publish _ _ _ hp ?_
      split
      · exact .inl rfl
      · exact .inr ⟨_, rfl⟩
  | stopCheck => rw [coreStep_stopCheck hp] at h; injection h with h; subst h; exact .stopCheck hp

/-! ### The host -/

/-- `s` with the registers a host access may write without starting the loop, and the outputs, taken
from `u` (44_host_channel.md R182). -/
def State.withHost (s u : State) : State :=
  { s with
    mode := u.mode, expectedWkc := u.expectedWkc, result := u.result, cmdTarget := u.cmdTarget,
    cmdVmax := u.cmdVmax, cmdAccel := u.cmdAccel, errcode := u.errcode, shutdown := u.shutdown,
    cmdPending := u.cmdPending, pendKind := u.pendKind, pendTarget := u.pendTarget,
    pendVmax := u.pendVmax, pendAcc := u.pendAcc, trace := u.trace }

/-- What a host access does that does not start the loop. -/
structure HostMove (s t : State) : Prop where
  /-- it writes nothing the core owns -/
  frame : t = s.withHost t
  /-- `MODE` is written only while Halted (44 R178) -/
  mode : t.mode = s.mode ∨ s.runState = .halted
  /-- it never clears `shutdown` (44 R172) -/
  shutdown : s.shutdown = true → t.shutdown = true
  /-- what it leaves pending is a valid command (44 R178, R180) -/
  pending : (s.cmdPending = true → s.PendingValid) → t.cmdPending = true → t.PendingValid
  /-- once Stopped, no command is submitted (44 R173 to R175) -/
  stopped : s.runState = .stopped → t.cmdPending = s.cmdPending

/-- An access that writes `RESULT`, or only puts something out. -/
theorem HostMove.answer (s : State) (r : Word) (tr : List Output) :
    HostMove s { s with result := r, trace := tr } :=
  ⟨rfl, .inl rfl, id, id, fun _ => rfl⟩

/-- A valid pair of limits is at least 1 with bit 31 clear (44_host_channel.md R180). -/
theorem validLimits_range {v a : Word} (h : validLimits v a = true) :
    1 ≤ v.toNat ∧ v.toNat < 2 ^ 31 ∧ 1 ≤ a.toNat ∧ a.toNat < 2 ^ 31 := by
  simp only [validLimits, Bool.and_eq_true, decide_eq_true_eq] at h
  obtain ⟨⟨⟨hv, -⟩, ha⟩, -⟩ := h
  have ⟨ev, lv⟩ := toNat_of_one_le_toInt hv
  have ⟨ea, la⟩ := toNat_of_one_le_toInt ha
  omega

/-- A position move, absolute or relative, is a host move (44 R173, R174). -/
theorem HostMove.submitMove {k : PendKind} (hk : k ≠ .velocity) (s : State) :
    HostMove s (s.submitMove k) := by
  obtain ⟨-, e⟩ | ⟨-, -, e⟩ | ⟨-, -, -, e⟩ | ⟨hr, hm, hv, e⟩ := s.submitMove_cases k <;> rw [e]
  case inr.inr.inr =>
    have hpend : { s with
        pendKind := k, pendTarget := s.cmdTarget, pendVmax := s.cmdVmax, pendAcc := s.cmdAccel,
        cmdPending := true, result := 0 }.PendingValid := by
      cases k with
      | velocity => exact absurd rfl hk
      | absolute | relative => exact ⟨hm, validLimits_range hv⟩
    exact ⟨rfl, .inl rfl, id, fun _ _ => hpend, fun h => absurd h hr⟩
  all_goals exact .answer s _ _

/-- SET_VEL is a host move (44 R175). -/
theorem hostMove_setVel {s t : State} (h : exec .hcSetVel s = .next t) : HostMove s t := by
  simp only [exec, execHcSetVel] at h
  split at h
  · injection h with h; subst h; exact .answer s _ _
  · rename_i hr
    split at h
    · injection h with h; subst h; exact .answer s _ _
    · rename_i hm
      have hmode : s.mode = s.params.modeVel := Decidable.not_not.mp hm
      injection h with h; subst h
      exact ⟨rfl, .inl rfl, id, fun _ _ => hmode, fun h => absurd h hr⟩

/-- A plain write is a host move (44 R178). -/
theorem HostMove.plainWrite (r : HostReg) (w : Word) (s : State) : HostMove s (s.plainWrite r w) := by
  cases r with
  | mode =>
    rw [State.plainWrite]
    split
    · rename_i hr
      exact ⟨rfl, .inr hr, id, fun _ => Bool.noConfusion, fun h => by rw [hr] at h; cases h⟩
    · exact .answer s _ _
  | expectedWkc =>
    rw [State.plainWrite]
    split
    · exact ⟨rfl, .inl rfl, id, id, fun _ => rfl⟩
    · exact .answer s _ _
  | _ => exact ⟨rfl, .inl rfl, id, id, fun _ => rfl⟩

/-- The doorbell selects a host-channel operation only (30_encoding.md R70). -/
theorem decodeHc_ok {w : Word} {i : Instr} (h : decodeHc w = .ok i) :
    i = .hcStart ∨ i = .hcStop ∨ i = .hcMoveAbs ∨ i = .hcMoveRel ∨ i = .hcSetVel := by
  unfold decodeHc at h
  (repeat' split at h) <;> cases h <;> simp

/-- START passes its checks: the loop is Halted and `MODE` legal (44 R171). -/
def State.Startable (s : State) : Prop := s.runState = .halted ∧ s.modeLegal = true

/-- A write to `CTRL` starts the loop or is a host move (44 R170, R179). -/
theorem doorbell_move {w : Word} {s t : State} (h : doorbell w s = .next t) :
    HostMove s t ∨ (s.Startable ∧ exec .hcStart s = .next t) := by
  unfold doorbell at h
  split at h
  · rename_i i hi
    obtain rfl | rfl | rfl | rfl | rfl := decodeHc_ok hi
    · obtain ⟨-, e⟩ | ⟨hr, hm, -⟩ | ⟨hr, hm, -⟩ := execHcStart_cases s
      · have e' := e.symm.trans h
        injection e' with e'
        subst e'
        exact .inl (.answer s _ _)
      · exact .inr ⟨⟨hr, hm⟩, h⟩
      · exact .inr ⟨⟨hr, hm⟩, h⟩
    · injection h with h; subst h
      exact .inl ⟨rfl, .inl rfl, fun _ => rfl, id, fun _ => rfl⟩
    · injection h with h; subst h; exact .inl (.submitMove (by decide) s)
    · injection h with h; subst h; exact .inl (.submitMove (by decide) s)
    · exact .inl (hostMove_setVel h)
  · injection h with h; subst h; exact .inl (.answer s _ _)

/-- A host access starts the loop or is a host move (44 R170, R177, R178). -/
theorem access_move {a : Access} {s t : State} (h : access a s = .next t) :
    HostMove s t ∨ (s.Startable ∧ exec .hcStart s = .next t) := by
  cases a with
  | read n => injection h with h; subst h; exact .inl (.answer s _ _)
  | write n w =>
    simp only [access, hostWrite] at h
    split at h
    · exact doorbell_move h
    · injection h with h; subst h; exact .inl (.plainWrite _ w s)
    · injection h with h; subst h; exact .inl (.answer s _ _)

/-- START that passes its checks stops or runs the loop; besides it writes the mode byte of `PDO_OUT`,
the wake time, `RESULT` and the outputs (44 R171). -/
theorem hcStart_frame {s t : State} (hs : s.Startable) (h : exec .hcStart s = .next t) :
    (t.runState = .stopped ∨ t.runState = .running) ∧
      t = { s.writeOut .modeOfOperation s.mode.toNat with
        nextWake := t.nextWake, freeCount := t.freeCount, runState := t.runState,
        result := t.result, trace := t.trace } := by
  obtain ⟨hr, hm⟩ := hs
  obtain ⟨hn | hn, -⟩ | ⟨-, -, -, e⟩ | ⟨-, -, -, e⟩ := execHcStart_cases s
  · exact absurd hr hn
  · rw [hm] at hn; cases hn
  all_goals
    have e' := e.symm.trans h
    injection e' with e'
    subst e'
    obtain ⟨-, w⟩ | ⟨-, w⟩ := (s.writeOut .modeOfOperation s.mode.toNat).setWake_cases s.now <;>
      rw [w]
  · exact ⟨.inl rfl, rfl⟩
  · exact ⟨.inl rfl, rfl⟩
  · exact ⟨.inr rfl, rfl⟩
  · exact ⟨.inr rfl, rfl⟩

/-! ### Every step -/

/-- What a step does that is no reset, its stimulus already taken off the list. -/
inductive Move (s : State) : State → Prop where
  /-- the core goes on with its tick -/
  | core (t : State) : CoreMove s t → Move s t
  /-- a host access that does not start the loop -/
  | host (t : State) : HostMove s t → Move s t
  /-- START passes its checks -/
  | start (t : State) : s.Startable → exec .hcStart s = .next t → Move s t
  /-- the time base goes on, or nothing happens at all -/
  | time (n : Dword) : s.now.toNat ≤ n.toNat → Move s { s with now := n }
  /-- the gate is open and a tick begins -/
  | tick (inp : TickInput) : s.gateOpen = true → Move s (s.beginTick inp)

/-- A stimulus is a reset or a move. -/
theorem perform_move {x : Stimulus} {s t : State} (h : perform x s = .next t) :
    (x = .reset ∧ t = s.resetNow) ∨ Move s t := by
  have access_case : ∀ {a}, access a s = .next t → Move s t := fun ha =>
    (access_move ha).elim (.host t) fun ⟨hs, he⟩ => .start t hs he
  cases x with
  | advance n =>
    simp only [perform, advanceTime] at h
    split at h
    · cases h
    · injection h with h; subst h; exact .inr (.time n (by omega))
  | host a => exact .inr (access_case h)
  | hostInside a => exact .inr (access_case h)
  | reset => injection h with h; exact .inl ⟨rfl, h.symm⟩
  | tick inp =>
    simp only [perform] at h
    split at h <;> injection h with h <;> subst h
    · exact .inr (.tick inp ‹_›)
    · exact .inr (.time s.now (Nat.le_refl _))
  | core pick => exact .inr (.core t (coreStep_move h))

/-- Every step of the machine is the reset that stands next in the list, or a move. -/
theorem step_move {s t : State} (h : step s = .next t) :
    (∃ rest, s.inputs = .reset :: rest ∧ t = { s with inputs := rest }.resetNow) ∨
      ∃ rest, Move { s with inputs := rest } t := by
  obtain ⟨hc, -⟩ | ⟨x, rest, hx, -, hx'⟩ := step_cases h
  · exact .inr ⟨s.inputs, .core t (coreStep_move hc)⟩
  · obtain ⟨rfl, ht⟩ | hm := perform_move hx'
    · exact .inl ⟨rest, hx, ht⟩
    · exact .inr ⟨rest, hm⟩

end Sys2Proof.Machine
end

section
/-! PROOFS. The invariant of 10_state.md R30 in two halves: `RegInv`, what holds of the registers
whatever the tick is doing, which every operation keeps, and `PhaseInv`, what holds of `run_state` and
of the point of the tick, which every move re-establishes. -/

namespace Sys2Proof.Machine

/-- The items of `State.Inv` about registers and records. -/
structure State.RegInv (s : State) : Prop where
  paramsLegal : s.params.legal = true
  outWf : Memory.wf outSize s.pdoOut = true
  inWf : Memory.wf inSize s.pdoIn = true
  disabledAtRest : s.driveOp = false → s.motionState = .idle ∧ s.velRef = 0 ∧ s.velActive = false
  idleAtRest : s.motionState = .idle → s.velRef = 0
  movingLimits : s.motionState ≠ .idle →
    1 ≤ s.acc.toNat ∧ s.acc.toNat < 2 ^ 31 ∧ 1 ≤ s.vmax.toNat ∧ s.mode = s.params.modePos
  errorShutsDown : s.busState = .error → s.shutdown = true
  notOperational : s.busState ≠ .operational → s.driveOp = false ∧ s.fault = false
  pendingValid : s.cmdPending = true → s.PendingValid
  vmaxRange : s.vmax.toNat < 2 ^ 31
  velRange : (s.vel.natAbs : Int) ≤ 2147483647 * s.s1

/-- The items of `State.Inv` about `run_state` and the point of the tick. -/
structure State.PhaseInv (s : State) : Prop where
  haltedAtReset : s.runState = .halted → s.CoreAtReset
  runningMode : s.runState = .running → s.modeLegal = true
  tickRuns : s.phase ≠ .idle → s.runState = .running
  driveOperational : s.phase = .drive → s.busState = .operational
  profilerEnabled : s.phase = .profiler ∨ s.phase = .motion ∨ s.phase = .outputs →
    s.busState = .operational ∧ s.driveOp = true
  motionMode : s.phase = .motion → s.mode = s.params.modePos

/-- The two halves are the invariant. -/
theorem State.inv_iff {s : State} : s.Inv ↔ s.RegInv ∧ s.PhaseInv :=
  ⟨fun h => ⟨{ h with }, { h with }⟩, fun ⟨hr, hp⟩ => { hr, hp with }⟩

/-! ### `RegInv` and the shared updates -/

namespace State.RegInv

variable {s : State}

/-- A change of the point of the tick touches no register. -/
theorem withPhase (h : s.RegInv) (p : Phase) : { s with phase := p }.RegInv := { h with }

theorem push (h : s.RegInv) (o : Output) : (s.push o).RegInv := { h with }

theorem writeOut (h : s.RegInv) (f : OutField) (v : Nat) : (s.writeOut f v).RegInv :=
  { h with outWf := State.wf_writeOut f v h.outWf }

theorem setWake (h : s.RegInv) (base : Dword) : (s.setWake base).RegInv := by
  obtain ⟨-, e⟩ | ⟨-, e⟩ := s.setWake_cases base <;> rw [e] <;> exact { h with }

/-- `fault` may be set only with the bus Operational (R30 item 5). -/
theorem setFault (h : s.RegInv) {b : Bool} (hb : b = true → s.busState = .operational) :
    (s.setFault b).RegInv :=
  { h with
    notOperational := fun hn => ⟨(h.notOperational hn).1, by
      cases b with
      | false => rfl
      | true => exact absurd (hb rfl) hn⟩ }

theorem takeOrigin (h : s.RegInv) : s.takeOrigin.RegInv := { h with }

/-- A speed of zero is within every limit. -/
theorem zero_velRange (h : s.RegInv) : (((0 : Dword).toInt.natAbs : Nat) : Int) ≤ 2147483647 * s.s1 := by
  have := (State.scale_range h.paramsLegal).1
  simp
  omega

theorem abort (h : s.RegInv) : s.abort.RegInv :=
  { h with
    disabledAtRest := fun _ => ⟨rfl, rfl, rfl⟩
    idleAtRest := fun _ => rfl
    movingLimits := fun hm => absurd rfl hm
    velRange := h.zero_velRange }

/-- The drive may be marked disabled once the move is forgotten (R30 item 1). -/
theorem disable (h : s.RegInv)
    (hr : s.motionState = .idle ∧ s.velRef = 0 ∧ s.velActive = false) :
    { s with driveOp := false }.RegInv :=
  { h with
    disabledAtRest := fun _ => hr
    notOperational := fun hn => ⟨rfl, (h.notOperational hn).2⟩ }

/-- The drive may be marked enabled while the bus is Operational (R30 item 5). -/
theorem enable (h : s.RegInv) (hb : s.busState = .operational) : { s with driveOp := true }.RegInv :=
  { h with
    disabledAtRest := Bool.noConfusion
    notOperational := fun hn => absurd hb hn }

theorem notEnabled (h : s.RegInv) (cw : Half) : (s.notEnabled cw).RegInv := by
  unfold State.notEnabled
  have rest : { (if s.driveOp then s.abort else s) with driveOp := false }.RegInv := by
    split
    · exact h.abort.disable ⟨rfl, rfl, rfl⟩
    · rename_i hd
      exact h.disable (h.disabledAtRest (by simpa using hd))
  exact ((rest.writeOut _ _).writeOut _ _).writeOut _ _

/-! ### `RegInv` and the profiler -/

/-- A moving axis is enabled (R30 item 1). -/
theorem moving_enabled (h : s.RegInv) (hm : s.motionState ≠ .idle) : s.driveOp = true := by
  cases hd : s.driveOp with
  | true => rfl
  | false => exact absurd (h.disabledAtRest hd).1 hm

/-- The limit of the move is within the largest speed (41_motion_profiler.md R102). -/
theorem velLimit_le (h : s.RegInv) : s.velLimit ≤ 2147483647 * s.s1 := by
  have hs := (State.scale_range h.paramsLegal).1
  have hv := h.vmaxRange
  exact Int.mul_le_mul_of_nonneg_right (by omega) (by omega)

/-- A ramp step of a moving axis whose new speed is no more than the larger of the old speed and the
limit (41 R105). -/
theorem ramp (h : s.RegInv) (hm : s.motionState ≠ .idle) {v : Int}
    (hv : (v.natAbs : Int) ≤ max (s.vel.natAbs : Int) s.velLimit) : (s.ramp v).RegInv := by
  have hle : (v.natAbs : Int) ≤ 2147483647 * s.s1 := by
    have hvel := h.velRange
    have hlim := h.velLimit_le
    omega
  have hs := (State.scale_range h.paramsLegal).2.1
  have hw : (BitVec.ofInt 64 v).toInt = v := State.vel_written h.paramsLegal hv (by omega)
  exact
    { h with
      disabledAtRest := fun hd => absurd (h.moving_enabled hm) (by simp [show s.driveOp = false from hd])
      idleAtRest := fun hi => absurd hi hm
      velRange := by
        show ((BitVec.ofInt 64 v).toInt.natAbs : Int) ≤ _
        rw [hw]; exact hle }

/-- A moving axis goes on in another moving state. -/
theorem withMotion (h : s.RegInv) (hm : s.motionState ≠ .idle) {m : MotionState} (hm' : m ≠ .idle) :
    { s with motionState := m }.RegInv :=
  { h with
    disabledAtRest := fun hd => absurd (h.disabledAtRest hd).1 hm
    idleAtRest := fun hi => absurd hi hm'
    movingLimits := fun _ => h.movingLimits hm }

theorem accelerate (h : s.RegInv) (hm : s.motionState ≠ .idle) : s.accelerate.RegInv :=
  h.ramp hm (natAbs_velAcc_le (Int.natCast_nonneg _) (State.velLimit_range h.paramsLegal).1)

theorem cruise (h : s.RegInv) (hm : s.motionState ≠ .idle) : s.cruise.RegInv :=
  h.ramp hm <| by
    have speed := natAbs_velCru s.direction_cases (State.velLimit_range h.paramsLegal).1
    omega

theorem decelerate (h : s.RegInv) (hm : s.motionState ≠ .idle) : s.decelerate.RegInv :=
  h.ramp hm (Int.le_trans (natAbs_velDec_le (Int.natCast_nonneg _)) (Int.le_max_left _ _))

theorem arrive (h : s.RegInv) : s.arrive.RegInv :=
  { h with
    disabledAtRest := fun hd => ⟨rfl, rfl, (h.disabledAtRest hd).2.2⟩
    idleAtRest := fun _ => rfl
    movingLimits := fun hm => absurd rfl hm
    velRange := h.zero_velRange }

/-! ### `RegInv` and the operations of a tick -/

/-- The BS operation `bus_state` selects (43_bus_state_monitor.md R162 to R165). -/
theorem exec_bus (h : s.RegInv) {u : State} (hu : exec s.busState.instr s = .next u) : u.RegInv := by
  have fails (hn : s.busState ≠ .operational) : s.busError.RegInv :=
    { h with
      errorShutsDown := fun _ => rfl
      notOperational := fun _ => h.notOperational hn }
  cases hb : s.busState <;> rw [hb] at hu <;>
    simp only [BusState.instr, exec, execBsWait, execBsReq, execBsOp, execBsErr] at hu
  case waitingForClockSync =>
    have hn : s.busState ≠ .operational := by simp [hb]
    split at hu
    · injection hu with hu; exact hu ▸ fails hn
    · split at hu <;> injection hu with hu <;> subst hu
      · exact { h with
          errorShutsDown := fun he => nomatch he
          notOperational := fun _ => h.notOperational hn }
      · exact h
  case requestingOperational =>
    have hn : s.busState ≠ .operational := by simp [hb]
    split at hu
    · injection hu with hu; exact hu ▸ fails hn
    · split at hu <;> injection hu with hu <;> subst hu
      · exact { h with
          errorShutsDown := fun he => nomatch he
          notOperational := fun hc => absurd rfl hc }
      · exact h
  case operational | error => injection hu with hu; exact hu ▸ h

/-- The DS operation of a drive state, with the bus Operational (40_drive_state_machine.md R82 to R87). -/
theorem exec_drive (h : s.RegInv) (hb : s.busState = .operational) {d : DriveState} {u : State}
    (hu : exec d.instr s = .next u) : u.RegInv := by
  have hf (b : Bool) : (s.setFault b).RegInv := h.setFault fun _ => hb
  cases d <;> injection hu with hu <;> subst hu
  case fault => exact ((hf true).notEnabled _).push _
  case operationEnabled =>
    split
    · exact hf false
    · exact (hf false).takeOrigin.enable hb
  case switchOnDisabled | readyToSwitchOn | switchedOn | notReady => exact (hf false).notEnabled _

/-- The MP operation `motion_state` selects (41_motion_profiler.md R106 to R109). -/
theorem exec_motion (h : s.RegInv) {u : State} (hu : exec s.motionState.instr s = .next u) :
    u.RegInv := by
  cases hm : s.motionState <;> rw [hm] at hu <;>
    simp only [MotionState.instr, exec, execMpIdle, execMpAcc, execMpCru, execMpDec] at hu
  case idle => injection hu with hu; exact hu ▸ h
  all_goals
    have moving : s.motionState ≠ .idle := by simp [hm]
    have slowing : s.enterDecelerating.RegInv :=
      (h.decelerate moving).withMotion moving MotionState.noConfusion
  case accelerating =>
    split at hu
    · injection hu with hu; exact hu ▸ slowing
    · split at hu <;> injection hu with hu <;> subst hu
      · exact (h.cruise moving).withMotion moving MotionState.noConfusion
      · exact h.accelerate moving
  case cruising =>
    split at hu <;> injection hu with hu <;> subst hu
    · exact slowing
    · exact h.cruise moving
  case decelerating =>
    split at hu <;> injection hu with hu <;> subst hu
    · exact h.arrive
    · exact h.decelerate moving

/-- A command pending in position mode is a move with valid limits (44_host_channel.md R178, R180). -/
theorem pending_limits (h : s.RegInv) (hm : s.mode = s.params.modePos) (hp : s.cmdPending = true) :
    1 ≤ s.pendVmax.toNat ∧ s.pendVmax.toNat < 2 ^ 31 ∧ 1 ≤ s.pendAcc.toNat ∧
      s.pendAcc.toNat < 2 ^ 31 := by
  have hv := h.pendingValid hp
  unfold State.PendingValid at hv
  split at hv
  · exact absurd (hm.symm.trans hv) (Params.modes_ne h.paramsLegal)
  · exact hv.2
  · exact hv.2

/-- MP.ADOPT of a pending position command on an enabled drive (41_motion_profiler.md R103). -/
theorem exec_adopt (h : s.RegInv) (hd : s.driveOp = true) (hm : s.mode = s.params.modePos)
    (hp : s.cmdPending = true) {u : State} (hu : exec .mpAdopt s = .next u) : u.RegInv := by
  obtain ⟨hv, hv', ha, ha'⟩ := h.pending_limits hm hp
  injection hu with hu; subst hu
  exact
    { h with
      disabledAtRest := fun he => nomatch hd.symm.trans he
      idleAtRest := fun hi => nomatch hi
      movingLimits := fun _ => ⟨ha, ha', hv, hm⟩
      pendingValid := Bool.noConfusion
      vmaxRange := hv' }

/-- MP.VEL on an enabled drive (41_motion_profiler.md R113). -/
theorem exec_velocity (h : s.RegInv) (hd : s.driveOp = true) {u : State}
    (hu : exec .mpVel s = .next u) : u.RegInv := by
  have adopted : s.adoptVelocity.RegInv := by
    rw [State.adoptVelocity_eq]
    exact { h with
      disabledAtRest := fun he => nomatch hd.symm.trans he
      pendingValid := Bool.noConfusion }
  injection hu with hu; subst hu
  exact (adopted.writeOut _ _).writeOut _ _

/-! ### `RegInv` and the steps of a tick that are no operation -/

/-- Phase 1 (42_cyclic_scheduler.md R143, R144). -/
theorem exchange (h : s.RegInv) : s.exchange.wkcCheck.RegInv := by
  have delivered : s.exchange.RegInv := { h with inWf := InRecord.wf_toMemory _ }
  obtain ⟨-, e⟩ | ⟨-, e⟩ := s.exchange.wkcCheck_cases <;> rw [e]
  · exact { delivered with }
  · exact delivered

/-- The end of phase 4 (41_motion_profiler.md R111, R114). -/
theorem profilerOutputs (h : s.RegInv) : s.profilerOutputs.RegInv := by
  unfold State.profilerOutputs
  split
  · exact ((h.writeOut _ _).writeOut _ _).writeOut _ _
  · exact h.writeOut _ _

/-- A store of the publish phase (44_host_channel.md R176). -/
theorem storeSnap (h : s.RegInv) (r : SnapReg) : (s.storeSnap r).RegInv := by
  rw [State.storeSnap_eq]; exact { h with }

/-- Phase 7 (42_cyclic_scheduler.md R146). -/
theorem stopCheck (h : s.RegInv) : s.stopCheck.RegInv := by
  obtain ⟨-, e⟩ | ⟨-, e⟩ := s.stopCheck_cases <;> rw [e] <;> exact { h with }

end State.RegInv

end Sys2Proof.Machine
end

section
/-! PROOFS. Every step keeps the invariant of 10_state.md R30, and reset establishes it. -/

namespace Sys2Proof.Machine

/-! ### Halted: the core's registers are at reset (R30 item 6) -/

namespace State.CoreAtReset

variable {s : State}

/-- What the host may write is none of the core's registers. -/
theorem withHost (h : s.CoreAtReset) (u : State) : (s.withHost u).CoreAtReset :=
  congrArg (fun v : State => v.withHost u) h

theorem withNow (h : s.CoreAtReset) (n : Dword) : { s with now := n }.CoreAtReset :=
  (congrArg (fun v : State => { v with now := n }) h :)

theorem withInputs (h : s.CoreAtReset) (l : List Stimulus) : { s with inputs := l }.CoreAtReset :=
  (congrArg (fun v : State => { v with inputs := l }) h :)

theorem motionState (h : s.CoreAtReset) : s.motionState = .idle := congrArg State.motionState h

theorem phase (h : s.CoreAtReset) : s.phase = .idle := congrArg State.phase h

end State.CoreAtReset

/-! ### Two ways to re-establish the second half -/

/-- Inside a tick: the loop runs on in the same `MODE`, and the next point of the tick may be reached
(42 R142, 40 R80, 41 R100, R117). -/
theorem State.PhaseInv.goOn {s t : State} (h : s.PhaseInv) (hr : s.runState = .running)
    (kept : t.runState = s.runState ∧ t.mode = s.mode ∧ t.params = s.params)
    (hd : t.phase = .drive → t.busState = .operational)
    (he : t.phase = .profiler ∨ t.phase = .motion ∨ t.phase = .outputs →
      t.busState = .operational ∧ t.driveOp = true)
    (hm : t.phase = .motion → s.mode = s.params.modePos) : t.PhaseInv := by
  obtain ⟨hrun, hmode, hpar⟩ := kept
  have hr' : t.runState = .running := hrun.trans hr
  exact
    { haltedAtReset := fun hh => nomatch hr'.symm.trans hh
      runningMode := fun _ => by
        have hl := h.runningMode hr
        simpa [State.modeLegal, hmode, hpar] using hl
      tickRuns := fun _ => hr'
      driveOperational := hd
      profilerEnabled := he
      motionMode := fun hp => by simpa [hmode, hpar] using hm hp }

/-- Between ticks, once the loop is no longer Halted. -/
theorem State.PhaseInv.betweenTicks {s : State} (hi : s.phase = .idle) (hh : s.runState ≠ .halted)
    (hm : s.runState = .running → s.modeLegal = true) : s.PhaseInv where
  haltedAtReset h := absurd h hh
  runningMode := hm
  tickRuns h := absurd hi h
  driveOperational h := nomatch hi.symm.trans h
  profilerEnabled h := by simp [hi] at h
  motionMode h := nomatch hi.symm.trans h

/-! ### Frames of the steps that are no operation -/

/-- Phase 1 writes `PDO_IN`, the error count and the outputs only (42 R143, R144). -/
theorem State.exchange_frame (s : State) :
    s.exchange.wkcCheck =
      { s with
        pdoIn := s.exchange.wkcCheck.pdoIn, wkcErrCount := s.exchange.wkcCheck.wkcErrCount,
        trace := s.exchange.wkcCheck.trace } := by
  obtain ⟨-, e⟩ | ⟨-, e⟩ := s.exchange.wkcCheck_cases <;> rw [e] <;> rfl

/-- The stop check writes `run_state` and the outputs only (42 R146). -/
theorem State.stopCheck_frame (s : State) :
    s.stopCheck = { s with runState := s.stopCheck.runState, trace := s.stopCheck.trace } := by
  obtain ⟨-, e⟩ | ⟨-, e⟩ := s.stopCheck_cases <;> rw [e]

/-- The wake time's update writes it and the count of free values only (42 R145). -/
theorem State.setWake_frame (base : Dword) (s : State) :
    s.setWake base =
      { s with nextWake := (s.setWake base).nextWake, freeCount := (s.setWake base).freeCount } := by
  obtain ⟨-, e⟩ | ⟨-, e⟩ := s.setWake_cases base <;> rw [e]

/-! ### Every move keeps the invariant -/

namespace State.Inv

variable {s t : State}

theorem withInputs (h : s.Inv) (l : List Stimulus) : { s with inputs := l }.Inv :=
  { h with haltedAtReset := fun hh => (h.haltedAtReset hh).withInputs l }

theorem withNow (h : s.Inv) (n : Dword) : { s with now := n }.Inv :=
  { h with haltedAtReset := fun hh => (h.haltedAtReset hh).withNow n }

/-- A step of the core: each operation keeps the first half, and the point of the tick it goes on to is
the one whose condition it has just met. -/
theorem coreMove (h : s.Inv) (hm : CoreMove s t) : t.Inv := by
  obtain ⟨hreg, hph⟩ := State.inv_iff.mp h
  have running {p : Phase} (hp : s.phase = p) (hne : p ≠ .idle) : s.runState = .running :=
    hph.tickRuns (hp ▸ hne)
  refine State.inv_iff.mpr ?_
  cases hm with
  | idle => exact ⟨hreg, hph⟩
  | exchange hp =>
    refine ⟨hreg.exchange.withPhase _, ?_⟩
    rw [State.exchange_frame]
    exact hph.goOn (running hp (by simp)) ⟨rfl, rfl, rfl⟩ (by simp) (by simp) (by simp)
  | monitor u hp hu =>
    have kept : u.runState = s.runState ∧ u.mode = s.mode ∧ u.params = s.params := by
      rw [(exec_bus_frame hu).1]; exact ⟨rfl, rfl, rfl⟩
    refine ⟨(hreg.exec_bus hu).withPhase _, hph.goOn (running hp (by simp)) kept ?_ ?_ ?_⟩
    all_goals
      dsimp only
      split <;> simp [*]
  | drive u hp hu =>
    have hb : s.busState = .operational := hph.driveOperational hp
    have kept : u.runState = s.runState ∧ u.mode = s.mode ∧ u.params = s.params := by
      rw [exec_drive_frame hu]; exact ⟨rfl, rfl, rfl⟩
    have hb' : u.busState = .operational := by rw [exec_drive_frame hu]; exact hb
    refine ⟨(hreg.exec_drive hb hu).withPhase _, hph.goOn (running hp (by simp)) kept ?_ ?_ ?_⟩
    all_goals
      dsimp only
      split <;> simp [*]
  | adopt u hp hmode hc hu =>
    obtain ⟨hb, hd⟩ := hph.profilerEnabled (.inl hp)
    refine ⟨(hreg.exec_adopt hd hmode hc hu).withPhase _, ?_⟩
    injection hu with hu; subst hu
    exact hph.goOn (running hp (by simp)) ⟨rfl, rfl, rfl⟩ (by simp) (fun _ => ⟨hb, hd⟩) (fun _ => hmode)
  | motion u hp hu =>
    have hpos : s.phase = .profiler ∨ s.phase = .motion ∨ s.phase = .outputs :=
      hp.elim (fun h => .inr (.inl h)) .inl
    obtain ⟨hb, hd⟩ := hph.profilerEnabled hpos
    have hr : s.runState = .running := hp.elim (running · (by simp)) (running · (by simp))
    refine ⟨(hreg.exec_motion hu).withPhase _, ?_⟩
    rw [exec_motion_frame hu]
    exact hph.goOn hr ⟨rfl, rfl, rfl⟩ (by simp) (fun _ => ⟨hb, hd⟩) (by simp)
  | velocity u hp hu =>
    obtain ⟨hb, hd⟩ := hph.profilerEnabled (.inl hp)
    refine ⟨(hreg.exec_velocity hd hu).withPhase _, ?_⟩
    injection hu with hu; subst hu
    rw [State.adoptVelocity_eq]
    exact hph.goOn (running hp (by simp)) ⟨rfl, rfl, rfl⟩ (by simp) (fun _ => ⟨hb, hd⟩) (by simp)
  | outputs hp =>
    refine ⟨hreg.profilerOutputs.withPhase _, ?_⟩
    rw [State.profilerOutputs_eq]
    exact hph.goOn (running hp (by simp)) ⟨rfl, rfl, rfl⟩ (by simp) (by simp) (by simp)
  | publish l r p hp hnext =>
    refine ⟨(hreg.storeSnap r).withPhase _, ?_⟩
    rw [State.storeSnap_eq]
    obtain rfl | ⟨l', rfl⟩ := hnext <;>
      exact hph.goOn (running hp (by simp)) ⟨rfl, rfl, rfl⟩ (by simp) (by simp) (by simp)
  | published hp =>
    exact ⟨hreg.withPhase _, hph.goOn (running hp (by simp)) ⟨rfl, rfl, rfl⟩ (by simp) (by simp) (by simp)⟩
  | stopCheck hp =>
    have hr := running hp (by simp)
    refine ⟨hreg.stopCheck.withPhase _, .betweenTicks rfl ?_ ?_⟩ <;>
      obtain ⟨-, e⟩ | ⟨-, e⟩ := s.stopCheck_cases <;> simp only [e]
    · simp
    · simp [hr]
    · simp
    · exact hph.runningMode

/-- A host access that does not start the loop. -/
theorem hostMove (h : s.Inv) (hm : HostMove s t) : t.Inv := by
  have idle_of_halted (hh : s.runState = .halted) : s.motionState = .idle :=
    (h.haltedAtReset hh).motionState
  rw [hm.frame]
  exact
    { h with
      movingLimits := fun hne =>
        have ⟨ha, ha', hv, hpos⟩ := h.movingLimits hne
        have hmode : t.mode = s.mode := hm.mode.resolve_right fun hh => hne (idle_of_halted hh)
        ⟨ha, ha', hv, hmode.trans hpos⟩
      errorShutsDown := fun he => hm.shutdown (h.errorShutsDown he)
      haltedAtReset := fun hh => (h.haltedAtReset hh).withHost t
      pendingValid := fun hc => hm.frame ▸ hm.pending h.pendingValid hc
      runningMode := fun (hr : s.runState = .running) => by
        have hmode : t.mode = s.mode := hm.mode.resolve_right (by simp [hr])
        have hl := h.runningMode hr
        simpa [State.modeLegal, State.withHost, hmode] using hl
      motionMode := fun (hp : s.phase = .motion) => by
        have hr : s.runState = .running := h.tickRuns (by simp [hp])
        have hmode : t.mode = s.mode := hm.mode.resolve_right (by simp [hr])
        exact hmode.trans (h.motionMode hp) }

/-- START that passes its checks. -/
theorem start (h : s.Inv) (hs : s.Startable) (ht : exec .hcStart s = .next t) : t.Inv := by
  obtain ⟨hreg, -⟩ := State.inv_iff.mp h
  obtain ⟨hrun, frame⟩ := hcStart_frame hs ht
  have hidle : s.phase = .idle := (h.haltedAtReset hs.1).phase
  rw [frame]
  refine State.inv_iff.mpr ⟨{ hreg.writeOut .modeOfOperation s.mode.toNat with }, ?_⟩
  refine .betweenTicks hidle ?_ fun _ => hs.2
  obtain hr | hr := hrun <;> simp [hr]

/-- A tick begins. -/
theorem beginTick (h : s.Inv) (hg : s.gateOpen = true) (inp : TickInput) : (s.beginTick inp).Inv := by
  obtain ⟨hreg, hph⟩ := State.inv_iff.mp h
  have hr : s.runState = .running := by
    simp only [State.gateOpen, Bool.and_eq_true, decide_eq_true_eq] at hg
    exact hg.1
  have waked := hreg.setWake s.nextWake
  refine State.inv_iff.mpr ⟨{ waked with }, ?_⟩
  unfold State.beginTick
  rw [State.setWake_frame]
  exact hph.goOn hr ⟨rfl, rfl, rfl⟩ (by simp) (by simp) (by simp)

/-- Every move keeps the invariant. -/
theorem move (h : s.Inv) (hm : Move s t) : t.Inv := by
  cases hm with
  | core _ hc => exact h.coreMove hc
  | host _ hh => exact h.hostMove hh
  | start _ hs ht => exact h.start hs ht
  | time n _ => exact h.withNow n
  | tick inp hg => exact h.beginTick hg inp

end State.Inv

/-- Reset establishes the invariant, whatever the legal parameters. -/
theorem State.inv_resetNow {s : State} (h : s.params.legal = true) : s.resetNow.Inv where
  paramsLegal := h
  outWf := rfl
  inWf := rfl
  disabledAtRest _ := ⟨rfl, rfl, rfl⟩
  idleAtRest _ := rfl
  movingLimits hm := absurd rfl hm
  errorShutsDown he := nomatch he
  notOperational _ := ⟨rfl, rfl⟩
  haltedAtReset _ := rfl
  pendingValid := Bool.noConfusion
  runningMode hr := nomatch hr
  tickRuns hp := absurd rfl hp
  driveOperational hp := nomatch hp
  profilerEnabled hp := by simp [State.resetNow, State.reset] at hp
  motionMode hp := nomatch hp
  vmaxRange := Nat.two_pow_pos 31
  velRange := by
    have hs : 1 ≤ s.resetNow.s1 := (State.scale_range h).1
    have hv : s.resetNow.vel = 0 := rfl
    rw [hv]
    omega

/-- Settles O54: every move keeps the invariant, and a reset establishes it anew. -/
theorem everyStepKeepsTheInvariant : Obligations.EveryStepKeepsTheInvariant := by
  intro s t h hstep
  obtain ⟨rest, -, rfl⟩ | ⟨rest, hm⟩ := step_move hstep
  · exact State.inv_resetNow h.paramsLegal
  · exact (h.withInputs rest).move hm

/-- Settles O12: the reset state is what a reset leaves with the reference parameters, and nothing has
been requested. -/
theorem invariantHoldsAtReset : Obligations.InvariantHoldsAtReset := by
  have legal : State.reset.params.legal = true := by decide
  exact ⟨State.inv_resetNow legal,
    { opAtMostOnce := Nat.zero_le 1, opNotWhileWaiting := fun _ => rfl, initAtStop := rfl }⟩

end Sys2Proof.Machine
end

section
/-! PROOFS. What no step changes (parameters, the time base backwards, `shutdown` and `ack` outside their
own rules), what a step does once Stopped, and the reset state. -/

namespace Sys2Proof.Machine

/-! ### What the moves leave alone -/

/-- What every move keeps: the parameters (00_scope.md R5), the order of the time base (42 R140), a set
`shutdown` (10_state.md R16), and `ack` unless a pending command is adopted (41 R103). -/
structure Kept (s t : State) : Prop where
  params : t.params = s.params
  now : s.now.toNat ≤ t.now.toNat
  shutdown : s.shutdown = true → t.shutdown = true
  ack : t.ack = s.ack ∨ (s.cmdPending = true ∧ t.cmdPending = false ∧ t.motionState = .accelerating)

/-- A state in which all four registers are the same. -/
theorem Kept.of_eq {s t : State} (hp : t.params = s.params) (hn : t.now = s.now)
    (hs : t.shutdown = s.shutdown) (ha : t.ack = s.ack) : Kept s t :=
  ⟨hp, hn ▸ Nat.le_refl _, fun h => hs.trans h, .inl ha⟩

theorem CoreMove.kept {s t : State} (hm : CoreMove s t) : Kept s t := by
  cases hm with
  | idle => exact .of_eq rfl rfl rfl rfl
  | exchange => rw [State.exchange_frame]; exact .of_eq rfl rfl rfl rfl
  | monitor u _ hu =>
    obtain ⟨frame, hs⟩ := exec_bus_frame hu
    rw [frame]
    exact ⟨rfl, Nat.le_refl _, hs, .inl rfl⟩
  | drive u _ hu => rw [exec_drive_frame hu]; exact .of_eq rfl rfl rfl rfl
  | adopt u _ _ hc hu =>
    injection hu with hu; subst hu
    exact ⟨rfl, Nat.le_refl _, id, .inr ⟨hc, rfl, rfl⟩⟩
  | motion u _ hu => rw [exec_motion_frame hu]; exact .of_eq rfl rfl rfl rfl
  | velocity u _ hu =>
    injection hu with hu; subst hu
    rw [State.adoptVelocity_eq]
    exact .of_eq rfl rfl rfl rfl
  | outputs => rw [State.profilerOutputs_eq]; exact .of_eq rfl rfl rfl rfl
  | publish => rw [State.storeSnap_eq]; exact .of_eq rfl rfl rfl rfl
  | published => exact .of_eq rfl rfl rfl rfl
  | stopCheck => rw [State.stopCheck_frame]; exact .of_eq rfl rfl rfl rfl

theorem Move.kept {s t : State} (hm : Move s t) : Kept s t := by
  cases hm with
  | core _ hc => exact hc.kept
  | host _ hh => rw [hh.frame]; exact ⟨rfl, Nat.le_refl _, hh.shutdown, .inl rfl⟩
  | start _ hs ht => rw [(hcStart_frame hs ht).2]; exact .of_eq rfl rfl rfl rfl
  | time n hn => exact ⟨rfl, hn, id, .inl rfl⟩
  | tick inp =>
    rw [State.beginTick, State.setWake_frame]
    exact .of_eq rfl rfl rfl rfl

/-- Settles O57: no move clears `shutdown` or changes `ack` without an adoption. -/
theorem onlyResetClearsShutdownOnlyAdoptionOrResetChangesAck :
    Obligations.OnlyResetClearsShutdownOnlyAdoptionOrResetChangesAck := by
  intro s t hstep
  obtain ⟨rest, hi, -⟩ | ⟨rest, hm⟩ := step_move hstep
  · exact ⟨fun _ _ => ⟨rest, hi⟩, fun _ => .inl ⟨rest, hi⟩⟩
  · have kept := hm.kept
    refine ⟨fun hs ht => ?_, fun ha => .inr (kept.ack.resolve_left ha)⟩
    exact absurd (kept.shutdown hs) (by simp [ht])

/-- Settles O59: every move keeps the parameters and the order of the time base, and so does a reset. -/
theorem parametersFixedAndTimeNeverDecreases : Obligations.ParametersFixedAndTimeNeverDecreases := by
  intro s t hstep
  obtain ⟨rest, -, rfl⟩ | ⟨rest, hm⟩ := step_move hstep
  · exact ⟨rfl, Nat.le_refl _⟩
  · exact ⟨hm.kept.params, hm.kept.now⟩

/-! ### Once Stopped -/

/-- Between ticks the core does nothing (42_cyclic_scheduler.md R142). -/
theorem CoreMove.eq_of_idle {s t : State} (hi : s.phase = .idle) (hm : CoreMove s t) : t = s := by
  cases hm
  case idle => rfl
  all_goals simp_all

/-- With the loop Stopped and no tick in progress a move leaves everything of the core's alone: the
doorbell refuses, `MODE` is held and the gate stays closed (44 R171 to R178, 42 R142). -/
theorem Move.of_stopped {s t : State} (hr : s.runState = .stopped) (hi : s.phase = .idle)
    (hm : Move s t) :
    t.runState = .stopped ∧ t.phase = .idle ∧ SameCoreOwned s t ∧ t.pdoOut = s.pdoOut ∧
      t.nextWake = s.nextWake ∧ t.cmdPending = s.cmdPending := by
  have same (u : State) : SameCoreOwned s (s.withHost u) := by
    unfold SameCoreOwned; repeat' constructor
  cases hm with
  | core _ hc => rw [hc.eq_of_idle hi]; exact ⟨hr, hi, same s, rfl, rfl, rfl⟩
  | host _ hh =>
    have hp := hh.stopped hr
    rw [hh.frame]
    exact ⟨hr, hi, same t, rfl, rfl, hp⟩
  | start _ hs => exact nomatch hr.symm.trans hs.1
  | time n => exact ⟨hr, hi, same s, rfl, rfl, rfl⟩
  | tick inp hg => simp [State.gateOpen, hr] at hg

/-- Settles O56: a step that is no reset is a move. -/
theorem stoppedIsLeftOnlyByReset : Obligations.StoppedIsLeftOnlyByReset := by
  intro s t hr hi hreset hstep
  obtain ⟨rest, hx, -⟩ | ⟨rest, hm⟩ := step_move hstep
  · exact absurd hx (hreset rest)
  · exact hm.of_stopped (s := { s with inputs := rest }) hr hi

/-! ### The reset state -/

/-- Every register number reads 0 at reset (10_state.md R31, R27). -/
theorem State.reset_hostValue (n : Nat) : State.reset.hostValue n = 0 := by
  unfold State.hostValue
  cases HostReg.ofNumber n with
  | none => rfl
  | some r => cases r <;> rfl

/-- `MODE = 0` is no legal mode, so START is refused at reset (10_state.md R31). -/
theorem exec_hcStart_reset : exec .hcStart State.reset = .next { State.reset with result := 3 } := by
  have illegal : State.reset.modeLegal = false := by decide
  obtain ⟨-, e⟩ | ⟨-, hm, -⟩ | ⟨-, hm, -⟩ := execHcStart_cases State.reset
  · exact e
  all_goals exact Bool.noConfusion (illegal.symm.trans hm)

/-- Settles O10: every register is zero by the reset state's definition, both records are empty, and
`MODE = 0` refuses START. -/
theorem resetLeavesEverythingZero : Obligations.ResetLeavesEverythingZero := by
  refine ⟨⟨rfl, rfl, rfl, rfl, rfl, rfl⟩, ⟨rfl, rfl, rfl⟩, ⟨rfl, rfl, rfl, rfl, rfl, rfl⟩, ⟨rfl, rfl⟩,
    ⟨rfl, rfl, rfl, rfl⟩, ⟨rfl, rfl⟩, State.reset_hostValue, fun a => ⟨?_, ?_⟩, exec_hcStart_reset⟩
  · exact Memory.read_nil a
  · exact Memory.read_nil a

end Sys2Proof.Machine
end

section
/-! PROOFS. The two records: the little-endian fields as sums and shifts (20_memory.md R43), and their
canonical form, which every step keeps. -/

namespace Sys2Proof.Machine

/-! ### Fields, little-endian (20_memory.md R43) -/

/-- A factor of every term is a factor of the sum. -/
theorem sum_map_const_mul (c : Nat) (f : Nat → Nat) (l : List Nat) :
    (l.map fun k => c * f k).sum = c * (l.map f).sum := by
  induction l with
  | nil => rfl
  | cons a l ih => rw [List.map_cons, List.map_cons, List.sum_cons, List.sum_cons, ih, Nat.mul_add]

/-- `MemRead` in the form of the rule: "sum over k in 0..n-1 of byte[off+k] * 256^k". -/
theorem Memory.loadLE_eq_sum (n off : Nat) (m : Memory) :
    m.loadLE off n = ((List.range n).map fun k => (m.read (off + k)).toNat * 256 ^ k).sum := by
  induction n generalizing off with
  | zero => rfl
  | succ n ih =>
    have higher (k : Nat) : (m.read (off + (k + 1))).toNat * 256 ^ (k + 1) =
        256 * ((m.read (off + 1 + k)).toNat * 256 ^ k) := by
      rw [Nat.pow_succ, ← Nat.mul_assoc, Nat.mul_comm _ 256, Nat.add_comm k 1, Nat.add_assoc]
    simp only [Memory.loadLE, ih, List.range_succ_eq_map, List.map_cons, List.map_map,
      Function.comp_def, Nat.succ_eq_add_one, higher, sum_map_const_mul, List.sum_cons, Nat.add_zero,
      Nat.pow_zero, Nat.mul_one]

/-- Byte `k` of a value: "`(v >> 8k) & 0xFF`". -/
theorem toNat_byte_eq_shiftRight (v k : Nat) :
    (BitVec.ofNat 8 (v / 256 ^ k)).toNat = (v >>> (8 * k)) &&& 0xFF := by
  rw [BitVec.toNat_ofNat, Nat.shiftRight_eq_div_pow, Nat.pow_mul]
  exact (Nat.and_two_pow_sub_one_eq_mod _ 8).symm

/-- Settles O7: the read is the sum by induction on the width, and the write is byte by byte. -/
theorem recordsAreLittleEndian : Obligations.RecordsAreLittleEndian := by
  intro m off n v
  refine ⟨m.loadLE_eq_sum n off, fun k hk => ?_, m.read_storeLE_outside n off v, ?_⟩
  · rw [Memory.read_storeLE_inside n off v m k hk, toNat_byte_eq_shiftRight]
  · rw [Memory.loadLE_storeLE_same, Nat.pow_mul]

/-- Settles O8: the tables of 20_memory.md R41 and R42 are the definitions' own values. -/
theorem recordLayouts : Obligations.RecordLayouts := ⟨rfl, rfl, rfl, rfl⟩

/-! ### The canonical form of both records (20_memory.md R40, R55) -/

/-- Both records are in the model's canonical form, with no byte beyond their sizes. -/
structure State.RecordsCanonical (s : State) : Prop where
  out : s.pdoOut.wf outSize = true
  inp : s.pdoIn.wf inSize = true

namespace State.RecordsCanonical

variable {s t : State}

theorem push (h : s.RecordsCanonical) (o : Output) : (s.push o).RecordsCanonical := { h with }

theorem setFault (h : s.RecordsCanonical) (b : Bool) : (s.setFault b).RecordsCanonical := { h with }

theorem takeOrigin (h : s.RecordsCanonical) : s.takeOrigin.RecordsCanonical :=
  ⟨by rw [State.takeOrigin_pdoOut]; exact h.out, by rw [State.takeOrigin_pdoIn]; exact h.inp⟩

/-- A field write stays inside `PDO_OUT`; no operation touches a record otherwise (20_memory.md R54). -/
theorem writeOut (h : s.RecordsCanonical) (f : OutField) (v : Nat) :
    (s.writeOut f v).RecordsCanonical :=
  { h with out := State.wf_writeOut f v h.out }

/-- `NotEnabled` writes three fields of `PDO_OUT` (40_drive_state_machine.md R88). -/
theorem notEnabled (h : s.RecordsCanonical) (cw : Half) : (s.notEnabled cw).RecordsCanonical := by
  unfold State.notEnabled
  have disabled : { (if s.driveOp then s.abort else s) with driveOp := false }.RecordsCanonical := by
    split <;> exact { h with }
  exact ((disabled.writeOut _ _).writeOut _ _).writeOut _ _

/-- A DS operation writes `PDO_OUT` by `NotEnabled` or not at all (40 R82 to R87). -/
theorem exec_drive (h : s.RecordsCanonical) {d : DriveState} (ht : exec d.instr s = .next t) :
    t.RecordsCanonical := by
  cases d <;> injection ht with ht <;> subst ht
  case fault => rw [State.raise_eq]; exact ((h.setFault true).notEnabled _).push _
  case operationEnabled =>
    split
    · exact h.setFault false
    · have origin := (h.setFault false).takeOrigin
      exact ⟨origin.out, origin.inp⟩
  case switchOnDisabled | readyToSwitchOn | switchedOn | notReady => exact (h.setFault false).notEnabled _

/-- MP.VEL writes the two targets (41_motion_profiler.md R113). -/
theorem exec_velocity (h : s.RecordsCanonical) (ht : exec .mpVel s = .next t) :
    t.RecordsCanonical := by
  have adopted : s.adoptVelocity.RecordsCanonical := by
    rw [State.adoptVelocity_eq]; exact { h with }
  injection ht with ht; subst ht
  exact (adopted.writeOut _ _).writeOut _ _

/-- An exchange replaces the whole input record by a canonical one (42_cyclic_scheduler.md R143). -/
theorem exchange (h : s.RecordsCanonical) : s.exchange.wkcCheck.RecordsCanonical := by
  have delivered : s.exchange.RecordsCanonical := { h with inp := InRecord.wf_toMemory _ }
  obtain ⟨-, e⟩ | ⟨-, e⟩ := s.exchange.wkcCheck_cases <;> rw [e]
  · exact { delivered with }
  · exact delivered

/-- The end of phase 4 writes the control word, in position mode after the two targets (41 R111, R114). -/
theorem profilerOutputs (h : s.RecordsCanonical) : s.profilerOutputs.RecordsCanonical := by
  unfold State.profilerOutputs
  split
  · exact ((h.writeOut _ _).writeOut _ _).writeOut _ _
  · exact h.writeOut _ _

theorem coreMove (h : s.RecordsCanonical) (hm : CoreMove s t) : t.RecordsCanonical := by
  cases hm with
  | idle => exact h
  | exchange => exact { h.exchange with }
  | monitor u _ hu => rw [(exec_bus_frame hu).1]; exact { h with }
  | drive u _ hu => exact { h.exec_drive hu with }
  | adopt u _ _ _ hu => injection hu with hu; subst hu; exact { h with }
  | motion u _ hu => rw [exec_motion_frame hu]; exact { h with }
  | velocity u _ hu => exact { h.exec_velocity hu with }
  | outputs => exact { h.profilerOutputs with }
  | publish => rw [State.storeSnap_eq]; exact { h with }
  | published => exact { h with }
  | stopCheck => rw [State.stopCheck_frame]; exact { h with }

/-- Of the host's accesses only START writes a record, its mode byte (44_host_channel.md R171). -/
theorem move (h : s.RecordsCanonical) (hm : Move s t) : t.RecordsCanonical := by
  cases hm with
  | core _ hc => exact h.coreMove hc
  | host _ hh => rw [hh.frame]; exact { h with }
  | start _ hs ht =>
    rw [(hcStart_frame hs ht).2]
    exact { h.writeOut .modeOfOperation s.mode.toNat with }
  | time => exact { h with }
  | tick => rw [State.beginTick, State.setWake_frame]; exact { h with }

end State.RecordsCanonical

/-- Settles O9: a reset empties both records, and every move keeps their form. -/
theorem everyStepKeepsRecordsCanonical : Obligations.EveryStepKeepsRecordsCanonical := by
  intro s t hstep hout hinp
  obtain ⟨rest, -, rfl⟩ | ⟨rest, hm⟩ := step_move hstep
  · exact ⟨rfl, rfl⟩
  · have canonical : { s with inputs := rest }.RecordsCanonical := ⟨hout, hinp⟩
    obtain ⟨hout', hinp'⟩ := canonical.move hm
    exact ⟨hout', hinp'⟩

end Sys2Proof.Machine
end

section
/-! PROOFS. Whose turn it is, as one equation a case of `step`; when a step answers a next state, and
what waits for the tick in progress (20_memory.md R44, R49). -/

namespace Sys2Proof.Machine

variable {s : State} {x : Stimulus} {rest : List Stimulus}

/-! ### Whose turn it is -/

/-- With no stimulus left the core goes on by itself. -/
theorem step_of_no_stimulus (hi : s.inputs = []) : step s = coreStep none s := by
  simp only [step, turn, hi]

/-- A stimulus that waits leaves the step to the tick in progress (20_memory.md R49). -/
theorem step_of_waits (hi : s.inputs = x :: rest) (hp : s.phase ≠ .idle) (hw : x.waits = true) :
    step s = coreStep none s := by
  simp only [step, turn, hi]
  exact if_pos ⟨hp, hw⟩

/-- Between ticks, or when it need not wait, the next stimulus takes effect. -/
theorem step_of_acts (hi : s.inputs = x :: rest) (h : s.phase = .idle ∨ x.waits = false) :
    step s = perform x { s with inputs := rest } := by
  simp only [step, turn, hi]
  refine if_neg fun ⟨hp, hw⟩ => ?_
  obtain h | h := h
  · exact hp h
  · exact Bool.noConfusion (hw.symm.trans h)

/-! ### Every step answers -/

/-- The time base takes a time that is not earlier (42_cyclic_scheduler.md R140). -/
theorem advanceTime_of_le {u : Dword} (h : s.now.toNat ≤ u.toNat) :
    advanceTime u s = .next { s with now := u } :=
  if_neg (Nat.not_lt.mpr h)

/-- A time base set back is the model's own fault (log 7). -/
theorem advanceTime_of_lt {u : Dword} (h : u.toNat < s.now.toNat) :
    advanceTime u s = .fault .timeBaseDecreased :=
  if_pos h

/-- Every stimulus answers a next state, unless it sets the time base back. -/
theorem perform_completes (h : ∀ u, x = .advance u → s.now.toNat ≤ u.toNat) :
    ∃ t, perform x s = .next t := by
  cases x with
  | advance u => exact ⟨_, advanceTime_of_le (h u rfl)⟩
  | host a => exact access_completes a s
  | hostInside a => exact access_completes a s
  | reset => exact ⟨_, rfl⟩
  | tick inp => simp only [perform]; split <;> exact ⟨_, rfl⟩
  | core pick => exact coreStep_completes pick s

/-- Settles O58: the core and every stimulus but a time set back complete, and that one faults. -/
theorem everyStepAnswersUnlessTimeGoesBack : Obligations.EveryStepAnswersUnlessTimeGoesBack := by
  refine ⟨fun s htime => ?_, fun s u rest hp hi hu => ?_⟩
  · cases hi : s.inputs with
    | nil => rw [step_of_no_stimulus hi]; exact coreStep_completes none s
    | cons x rest =>
      by_cases acts : s.phase = .idle ∨ x.waits = false
      · rw [step_of_acts hi acts]
        refine perform_completes fun u hx => ?_
        subst hx
        exact htime u rest hi
      · obtain ⟨hp, hw⟩ := not_or.mp acts
        rw [step_of_waits hi hp (eq_true_of_ne_false hw)]
        exact coreStep_completes none s
  · rw [step_of_acts hi (.inl hp)]
    exact advanceTime_of_lt hu

/-! ### What waits for the tick -/

/-- The core takes no stimulus off the list. -/
theorem coreStep_inputs {pick : Option SnapReg} {t : State} (h : coreStep pick s = .next t) :
    t.inputs = s.inputs := by
  cases coreStep_move h with
  | idle => rfl
  | exchange => rw [State.exchange_frame]
  | monitor u _ hu => rw [(exec_bus_frame hu).1]
  | drive u _ hu => rw [exec_drive_frame hu]
  | adopt u _ _ _ hu => injection hu with hu; subst hu; rfl
  | motion u _ hu => rw [exec_motion_frame hu]
  | velocity u _ hu => injection hu with hu; subst hu; rw [State.adoptVelocity_eq]; rfl
  | outputs => rw [State.profilerOutputs_eq]
  | publish => rw [State.storeSnap_eq]
  | published => rfl
  | stopCheck => rw [State.stopCheck_frame]

/-- Settles O52: all four stimuli wait, and the core's step leaves the list alone. -/
theorem ctrlWritesAndResetWaitForTheTick : Obligations.CtrlWritesAndResetWaitForTheTick := by
  intro s x rest hp hi hx
  have hw : x.waits = true := by
    obtain rfl | ⟨inp, rfl⟩ | ⟨w, rfl⟩ | ⟨w, rfl⟩ := hx <;> rfl
  obtain ⟨t, ht⟩ := coreStep_completes none s
  exact ⟨t, (step_of_waits hi hp hw).trans ht, ht, (coreStep_inputs ht).trans hi⟩

end Sys2Proof.Machine
end

section
/-! PROOFS. The encodings (30_encoding.md). A row matches a word under its mask; the status decode, the
two state codes and the doorbell are each said once as an `↔` with the row that matches, and every
statement about the decoders is read off those. -/

namespace Sys2Proof

/-! ### Masks and matches -/

/-- Two rows that match one word agree on the bits that both masks keep. -/
theorem matches_agree {n : Nat} {w mask₁ m₁ mask₂ m₂ : BitVec n} (h₁ : w &&& mask₁ = m₁)
    (h₂ : w &&& mask₂ = m₂) : m₁ &&& mask₂ = m₂ &&& mask₁ := by
  rw [← h₁, ← h₂, BitVec.and_assoc, BitVec.and_assoc, BitVec.and_comm mask₁]

/-- A row over the low bits of a word may be read off the whole word, its mask and match widened. -/
theorem setWidth_matches_iff {n k : Nat} (h : k ≤ n) (w : BitVec n) (mask m : BitVec k) :
    w.setWidth k &&& mask = m ↔ w &&& mask.setWidth n = m.setWidth n := by
  have narrow (v : BitVec k) : (v.setWidth n).setWidth k = v := by
    rw [BitVec.setWidth_setWidth_of_le _ h, BitVec.setWidth_eq]
  have widen : (w.setWidth k &&& mask).setWidth n = w &&& mask.setWidth n := by
    ext i hi
    simp only [BitVec.getElem_setWidth, BitVec.getLsbD_and, BitVec.getLsbD_setWidth,
      BitVec.getElem_and, BitVec.getLsbD_eq_getElem hi]
    by_cases hk : i < k
    · simp [hk]
    · simp [BitVec.getLsbD_of_ge mask i (by omega)]
  constructor
  · rintro rfl
    exact widen.symm
  · intro hw
    rw [← narrow (w.setWidth k &&& mask), widen, hw, narrow]

/-- The low bits of a word are a code exactly when the word matches the code under the mask of all of
them. -/
theorem setWidth_eq_iff {n k : Nat} (h : k ≤ n) (w : BitVec n) (c : BitVec k) :
    w.setWidth k = c ↔ w &&& (BitVec.allOnes k).setWidth n = c.setWidth n := by
  rw [← setWidth_matches_iff h, BitVec.and_allOnes]

/-! ### Format SW (30_encoding.md R61 to R64) -/

/-- Mask and match of a state's row in the table of 30_encoding.md R62; the default row has an empty
mask, which every word matches. -/
def DriveState.pattern : DriveState → Half × Half
  | .fault => (0x0008, 0x0008)
  | .switchOnDisabled => (0x004F, 0x0040)
  | .readyToSwitchOn => (0x006F, 0x0021)
  | .switchedOn => (0x006F, 0x0023)
  | .operationEnabled => (0x006F, 0x0027)
  | .notReady => (0x0000, 0x0000)

/-- The status word matches the state's row. -/
def DriveState.Matches (d : DriveState) (sw : Half) : Prop := sw &&& d.pattern.1 = d.pattern.2

/-- The row of a DS operation in the model is its state's pattern, widened. -/
theorem DriveState.row_instr (d : DriveState) :
    d.instr.row = some (.sw, d.pattern.1.setWidth 32, d.pattern.2.setWidth 32) := by
  cases d <;> rfl

theorem DriveState.instr_injective : Function.Injective DriveState.instr := by
  intro d e h
  cases d <;> cases e <;> cases h <;> rfl

/-- 30_encoding.md R64: the patterned rows are pairwise disjoint, because any two of them disagree on
a bit that both masks keep. -/
theorem DriveState.Matches.unique {d e : DriveState} {sw : Half} (hd : d ≠ .notReady)
    (he : e ≠ .notReady) (h₁ : d.Matches sw) (h₂ : e.Matches sw) : d = e := by
  have disagree : ∀ d e : DriveState, d ≠ .notReady → e ≠ .notReady →
      d.pattern.2 &&& e.pattern.1 = e.pattern.2 &&& d.pattern.1 → d = e := by
    intro d e
    cases d <;> cases e <;> decide
  exact disagree d e hd he (matches_agree h₁ h₂)

/-- The decoded state's row matches, and the default row wins only where no patterned row matches. -/
theorem decodeStatus_spec (sw : Half) :
    (decodeStatus sw).Matches sw ∧
      (decodeStatus sw = .notReady → ∀ e : DriveState, e ≠ .notReady → ¬ e.Matches sw) := by
  unfold decodeStatus
  repeat' split
  case isFalse h₁ h₂ h₃ h₄ h₅ =>
    refine ⟨BitVec.and_zero, fun _ e he => ?_⟩
    cases e with
    | fault => exact h₁
    | switchOnDisabled => exact h₂
    | readyToSwitchOn => exact h₃
    | switchedOn => exact h₄
    | operationEnabled => exact h₅
    | notReady => exact absurd rfl he
  all_goals
    next h => exact ⟨h, nofun⟩

/-- The status decode as the table reads (30_encoding.md R62): a state is decoded exactly when its row
matches and, for the default row, no other does. The priority order leaves no trace. -/
theorem decodeStatus_eq_iff (sw : Half) (d : DriveState) :
    decodeStatus sw = d ↔
      d.Matches sw ∧ (d = .notReady → ∀ e : DriveState, e ≠ .notReady → ¬ e.Matches sw) := by
  obtain ⟨hmatch, hdefault⟩ := decodeStatus_spec sw
  constructor
  · rintro rfl
    exact ⟨hmatch, hdefault⟩
  · rintro ⟨hd, hnone⟩
    by_cases hd0 : d = .notReady
    · refine Decidable.byContradiction fun hne => ?_
      exact hnone hd0 _ (fun h => hne (h.trans hd0.symm)) hmatch
    · exact hmatch.unique (fun h => hdefault h d hd0 hd) hd0 hd

theorem decode_sw_eq_instr (w : Word) (d : DriveState) :
    decode .sw w = .ok d.instr ↔ decodeStatus (w.setWidth 16) = d := by
  simp only [decode, decodeSw, Except.ok.injEq, DriveState.instr_injective.eq_iff]

/-- No mask keeps a bit outside 0 to 3, 5 and 6 (30_encoding.md R61). -/
theorem DriveState.matches_congr {a b : Half} (h : a &&& 0x006F = b &&& 0x006F) (d : DriveState) :
    d.Matches a ↔ d.Matches b := by
  have within : (0x006F : Half) &&& d.pattern.1 = d.pattern.1 := by cases d <;> rfl
  have same : a &&& d.pattern.1 = b &&& d.pattern.1 := by
    rw [← within, ← BitVec.and_assoc, ← BitVec.and_assoc, h]
  rw [DriveState.Matches, DriveState.Matches, same]

theorem decodeStatus_congr {a b : Half} (h : a &&& 0x006F = b &&& 0x006F) :
    decodeStatus a = decodeStatus b := by
  have hb := (decodeStatus_eq_iff b _).mp rfl
  simp only [← DriveState.matches_congr h] at hb
  exact (decodeStatus_eq_iff a _).mpr hb

/-- Settles O3: no row's mask keeps an ignored bit, so both words match the same rows. -/
theorem statusDecodeIgnoresBits4And7AndHighByte :
    Obligations.StatusDecodeIgnoresBits4And7AndHighByte := fun _ _ h =>
  ⟨decodeStatus_congr h, congrArg DriveState.instr (decodeStatus_congr h)⟩

/-! ### The closed form of the status decode (30_encoding.md R64) -/

theorem and_eq_iff_getLsbD {n : Nat} (w mask m : BitVec n) :
    w &&& mask = m ↔ ∀ i < n, (w.getLsbD i && mask.getLsbD i) = m.getLsbD i := by
  simp only [BitVec.eq_of_getLsbD_eq_iff, BitVec.getLsbD_and]

/-- What a state's row asks of the bits of the status word. -/
def DriveState.bits (d : DriveState) (b : Nat → Bool) : Bool :=
  match d with
  | .fault => b 3
  | .switchOnDisabled => !b 3 && (b 6 && !b 2 && !b 1 && !b 0)
  | .readyToSwitchOn => !b 3 && (!b 6 && b 5 && !b 2 && !b 1 && b 0)
  | .switchedOn => !b 3 && (!b 6 && b 5 && !b 2 && b 1 && b 0)
  | .operationEnabled => !b 3 && (!b 6 && b 5 && b 2 && b 1 && b 0)
  | .notReady => true

/-- A row's mask keeps the bits that `DriveState.bits` reads, and its match gives their values. -/
theorem DriveState.matches_iff_bits (d : DriveState) (sw : Half) :
    d.Matches sw ↔ d.bits sw.getLsbD = true := by
  rw [Matches, and_eq_iff_getLsbD]
  simp only [Nat.forall_lt_succ_right, Nat.not_lt_zero, false_imp_iff, forall_const]
  cases d <;>
    simp [pattern, bits, -BitVec.getLsbD_eq_getElem, and_assoc, and_comm, and_left_comm]

/-- The table row by row in bits; below the fault row bit 3 is clear, so the other rows' demand of it
drops out. -/
theorem decodeStatus_eq_closedForm (sw : Half) : decodeStatus sw =
    (let b := fun k => sw.getLsbD k
     if b 3 then .fault
     else if b 6 && !b 2 && !b 1 && !b 0 then .switchOnDisabled
     else if !b 6 && b 5 && !b 2 && !b 1 && b 0 then .readyToSwitchOn
     else if !b 6 && b 5 && !b 2 && b 1 && b 0 then .switchedOn
     else if !b 6 && b 5 && b 2 && b 1 && b 0 then .operationEnabled
     else .notReady) := by
  have fault : sw &&& 0x0008 = 0x0008 ↔ _ := DriveState.fault.matches_iff_bits sw
  have disabled : sw &&& 0x004F = 0x0040 ↔ _ := DriveState.switchOnDisabled.matches_iff_bits sw
  have ready : sw &&& 0x006F = 0x0021 ↔ _ := DriveState.readyToSwitchOn.matches_iff_bits sw
  have switched : sw &&& 0x006F = 0x0023 ↔ _ := DriveState.switchedOn.matches_iff_bits sw
  have enabled : sw &&& 0x006F = 0x0027 ↔ _ := DriveState.operationEnabled.matches_iff_bits sw
  simp only [decodeStatus, fault, disabled, ready, switched, enabled, DriveState.bits]
  by_cases clear : sw.getLsbD 3 = false
  · simp only [clear, Bool.not_false, Bool.true_and]
  · simp only [eq_true_of_ne_false clear, if_true]

/-- How many of the 256 low bytes decode to a state, counted with bit 7 clear and with bit 7 set. -/
theorem decodeStatus_census (d : DriveState) :
    ((List.range 256).countP fun n => decide (decodeStatus (BitVec.ofNat 16 n) = d)) =
      match d with
      | .fault => 128
      | .switchOnDisabled => 8
      | .readyToSwitchOn | .switchedOn | .operationEnabled => 4
      | .notReady => 108 := by
  rw [show 256 = 128 + 128 from rfl, List.range_add, List.countP_append]
  cases d <;> rfl

/-- The patterned rows as the statement lists them. -/
theorem exists_pattern_of_mem {p : Half × Half}
    (hp : p ∈ [((0x0008 : Half), (0x0008 : Half)), (0x004F, 0x0040), (0x006F, 0x0021),
      (0x006F, 0x0023), (0x006F, 0x0027)]) :
    ∃ d : DriveState, d ≠ .notReady ∧ d.pattern = p := by
  simp only [List.mem_cons, List.not_mem_nil, or_false] at hp
  obtain rfl | rfl | rfl | rfl | rfl := hp
  · exact ⟨.fault, nofun, rfl⟩
  · exact ⟨.switchOnDisabled, nofun, rfl⟩
  · exact ⟨.readyToSwitchOn, nofun, rfl⟩
  · exact ⟨.switchedOn, nofun, rfl⟩
  · exact ⟨.operationEnabled, nofun, rfl⟩

/-- Settles O2: the rows are disjoint by their common mask bits, the closed form reads them bit by bit,
and the high byte is outside every mask. -/
theorem statusDecodeClosedFormAndCensus : Obligations.StatusDecodeClosedFormAndCensus := by
  refine ⟨fun sw p q hp hq hpm hqm => ?_, decodeStatus_eq_closedForm, fun sw => ?_, ?_⟩
  · obtain ⟨d, hd, rfl⟩ := exists_pattern_of_mem hp
    obtain ⟨e, he, rfl⟩ := exists_pattern_of_mem hq
    exact congrArg DriveState.pattern (DriveState.Matches.unique hd he hpm hqm)
  · refine decodeStatus_congr ?_
    rw [BitVec.and_assoc]
    rfl
  · exact ⟨decodeStatus_census _, decodeStatus_census _, decodeStatus_census _,
      decodeStatus_census _, decodeStatus_census _, decodeStatus_census _⟩

/-! ### Formats MS and BS (30_encoding.md R67, R68) -/

theorem MotionState.ofCode_eq_iff (c : Code2) (m : MotionState) : ofCode c = m ↔ c = m.code :=
  ⟨fun h => h ▸ (code_ofCode c).symm, fun h => h ▸ ofCode_code m⟩

theorem BusState.ofCode_eq_iff (c : Code2) (b : BusState) : ofCode c = b ↔ c = b.code :=
  ⟨fun h => h ▸ (code_ofCode c).symm, fun h => h ▸ ofCode_code b⟩

theorem MotionState.instr_injective : Function.Injective MotionState.instr := by
  intro m n h
  cases m <;> cases n <;> cases h <;> rfl

theorem BusState.instr_injective : Function.Injective BusState.instr := by
  intro b c h
  cases b <;> cases c <;> cases h <;> rfl

theorem decode_ms_eq_instr (w : Word) (m : MotionState) :
    decode .ms w = .ok m.instr ↔ w &&& 0x3 = m.code.setWidth 32 := by
  simp only [decode, decodeMs, Except.ok.injEq, MotionState.instr_injective.eq_iff,
    MotionState.ofCode_eq_iff]
  exact setWidth_eq_iff (by decide) w m.code

theorem decode_bs_eq_instr (w : Word) (b : BusState) :
    decode .bs w = .ok b.instr ↔ w &&& 0x3 = b.code.setWidth 32 := by
  simp only [decode, decodeBs, Except.ok.injEq, BusState.instr_injective.eq_iff,
    BusState.ofCode_eq_iff]
  exact setWidth_eq_iff (by decide) w b.code

/-! ### Format HC (30_encoding.md R70, R72) -/

/-- The opcode of a doorbell operation; none for the operations that no doorbell word selects. -/
def Instr.opcode : Instr → Option Byte
  | .hcStart => some 0x01
  | .hcStop => some 0x02
  | .hcMoveAbs => some 0x10
  | .hcMoveRel => some 0x11
  | .hcSetVel => some 0x12
  | _ => none

/-- The doorbell selects the operation whose opcode its low byte holds, and no other word selects it. -/
theorem decodeHc_eq_ok_iff (w : Word) (i : Instr) : decodeHc w = .ok i ↔ i.opcode = some (opByte w) := by
  constructor
  · unfold decodeHc
    repeat' split
    case isFalse => nofun
    all_goals
      next h =>
        rintro ⟨⟩
        rw [h]
        rfl
  · intro h
    cases i with
    | hcStart | hcStop | hcMoveAbs | hcMoveRel | hcSetVel =>
      injection h with h
      rw [decodeHc, ← h]
      rfl
    | _ => nomatch h

/-- A low byte that is no opcode is rejected by name (30_encoding.md R72). -/
theorem decodeHc_eq_error {w : Word} (h : ∀ i : Instr, i.opcode ≠ some (opByte w)) :
    decodeHc w = .error (.reservedOpcode (opByte w)) := by
  cases hw : decodeHc w with
  | ok i => exact absurd ((decodeHc_eq_ok_iff w i).mp hw) (h i)
  | error r =>
    unfold decodeHc at hw
    repeat' split at hw
    case isFalse => exact hw.symm
    all_goals nomatch hw

/-- The opcode as a row of 30_encoding.md R70: the low byte, under the mask 0xFF over the whole word. -/
theorem decode_hc_eq_ok_iff {i : Instr} {op : Byte} (h : i.opcode = some op) (w : Word) :
    decode .hc w = .ok i ↔ w &&& 0xFF = op.setWidth 32 := by
  rw [decode, decodeHc_eq_ok_iff, h, Option.some.injEq, eq_comm]
  exact setWidth_eq_iff (by decide) w op

theorem opByte_eq_ofNat (w : Word) : opByte w = BitVec.ofNat 8 (w.toNat % 256) := by
  apply BitVec.eq_of_toNat_eq
  simp [opByte]

/-- Settles O4: the low byte as a number is the opcode byte. -/
theorem doorbellDecodesLowByte : Obligations.DoorbellDecodesLowByte := by
  intro w
  have selects {n : Nat} {i : Instr} (hi : i.opcode = some (BitVec.ofNat 8 n))
      (hw : w.toNat % 256 = n) : decode .hc w = .ok i :=
    (decodeHc_eq_ok_iff w i).mpr (by rw [hi, opByte_eq_ofNat, hw])
  refine ⟨selects rfl, selects rfl, selects rfl, selects rfl, selects rfl, fun reserved => ?_⟩
  rw [← opByte_eq_ofNat]
  refine decodeHc_eq_error fun i hi => reserved ?_
  have low : (opByte w).toNat = w.toNat % 256 := BitVec.toNat_setWidth 8 w
  rw [← low]
  cases i with
  | hcStart | hcStop | hcMoveAbs | hcMoveRel | hcSetVel =>
    injection hi with hi
    rw [← hi]
    decide
  | _ => nomatch hi

/-! ### Every row -/

theorem Instr.row_of_opcode {i : Instr} {op : Byte} (h : i.opcode = some op) :
    i.row = some (.hc, 0xFF, op.setWidth 32) := by
  cases i with
  | hcStart | hcStop | hcMoveAbs | hcMoveRel | hcSetVel =>
    injection h with h
    rw [← h]
    rfl
  | _ => nomatch h

theorem MotionState.row_instr (m : MotionState) :
    m.instr.row = some (.ms, 0x3, m.code.setWidth 32) := by
  cases m <;> rfl

theorem BusState.row_instr (b : BusState) : b.instr.row = some (.bs, 0x3, b.code.setWidth 32) := by
  cases b <;> rfl

/-- The operations with a row are those of the six drive states, of the two state codes, and of the
opcodes. -/
theorem Instr.cases_of_hasSelector {i : Instr} (h : i.hasSelector = true) :
    (∃ d : DriveState, i = d.instr) ∨ (∃ m : MotionState, i = m.instr) ∨
      (∃ b : BusState, i = b.instr) ∨ ∃ op, i.opcode = some op := by
  cases i with
  | dsFault => exact .inl ⟨.fault, rfl⟩
  | dsSod => exact .inl ⟨.switchOnDisabled, rfl⟩
  | dsRtso => exact .inl ⟨.readyToSwitchOn, rfl⟩
  | dsSon => exact .inl ⟨.switchedOn, rfl⟩
  | dsOpen => exact .inl ⟨.operationEnabled, rfl⟩
  | dsNrdy => exact .inl ⟨.notReady, rfl⟩
  | mpIdle => exact .inr (.inl ⟨.idle, rfl⟩)
  | mpAcc => exact .inr (.inl ⟨.accelerating, rfl⟩)
  | mpCru => exact .inr (.inl ⟨.cruising, rfl⟩)
  | mpDec => exact .inr (.inl ⟨.decelerating, rfl⟩)
  | bsWait => exact .inr (.inr (.inl ⟨.waitingForClockSync, rfl⟩))
  | bsReq => exact .inr (.inr (.inl ⟨.requestingOperational, rfl⟩))
  | bsOp => exact .inr (.inr (.inl ⟨.operational, rfl⟩))
  | bsErr => exact .inr (.inr (.inl ⟨.error, rfl⟩))
  | hcStart | hcStop | hcMoveAbs | hcMoveRel | hcSetVel => exact .inr (.inr (.inr ⟨_, rfl⟩))
  | mpOrigin | mpAbort | mpAdopt | mpVel => nomatch h

theorem Instr.row_eq_none_of_triggered {i : Instr} (h : i.hasSelector = false) : i.row = none := by
  cases i with
  | mpOrigin | mpAbort | mpAdopt | mpVel => rfl
  | _ => nomatch h

theorem Instr.hasSelector_of_row {i : Instr} {r : Format × Word × Word} (h : i.row = some r) :
    i.hasSelector = true := by
  cases hsel : i.hasSelector with
  | true => rfl
  | false =>
    rw [row_eq_none_of_triggered hsel] at h
    nomatch h

/-- A row of format SW belongs to a drive state. -/
theorem Instr.eq_instr_of_row_sw {i : Instr} {mask m : Word} (h : i.row = some (.sw, mask, m)) :
    ∃ d : DriveState, i = d.instr := by
  obtain hd | ⟨c, rfl⟩ | ⟨b, rfl⟩ | ⟨op, hop⟩ := i.cases_of_hasSelector (hasSelector_of_row h)
  · exact hd
  · rw [c.row_instr] at h; nomatch h
  · rw [b.row_instr] at h; nomatch h
  · rw [row_of_opcode hop] at h; nomatch h

/-- A status word in the low bits of a word matches a row as the whole word matches the widened row. -/
theorem DriveState.matches_setWidth_iff (d : DriveState) (w : Word) :
    d.Matches (w.setWidth 16) ↔ w &&& d.pattern.1.setWidth 32 = d.pattern.2.setWidth 32 :=
  setWidth_matches_iff (by decide) w _ _

/-- No patterned row matches, said over the states and over the operations. -/
theorem no_pattern_matches_iff (w : Word) :
    (∀ e : DriveState, e ≠ .notReady → ¬ e.Matches (w.setWidth 16)) ↔
      ∀ (j : Instr) (mask m : Word), j ≠ .dsNrdy → j.row = some (.sw, mask, m) → w &&& mask ≠ m := by
  constructor
  · intro hnone j mask m hj hrow hw
    obtain ⟨e, rfl⟩ := Instr.eq_instr_of_row_sw hrow
    cases e.row_instr.symm.trans hrow
    exact hnone e (fun he => hj (congrArg DriveState.instr he)) (e.matches_setWidth_iff w |>.mpr hw)
  · intro hnone e he hmatch
    exact hnone e.instr _ _ (fun h => he (DriveState.instr_injective h)) e.row_instr
      (e.matches_setWidth_iff w |>.mp hmatch)

/-- The default row is in format SW, so no other format's row asks for more than its match. -/
theorem Instr.default_clause_iff_of_row {i : Instr} {f : Format} {mask m : Word}
    (h : i.row = some (f, mask, m)) (hf : f ≠ .sw) (matched none_else : Prop) :
    matched ∧ (i = .dsNrdy → none_else) ↔ matched := by
  refine and_iff_left ?_
  rintro rfl
  cases h
  exact absurd rfl hf

/-- A word decodes to an operation exactly when it matches the operation's row and, for the default
row, no other row of format SW. -/
theorem decode_eq_ok_iff_of_row {i : Instr} {f : Format} {mask m : Word}
    (h : i.row = some (f, mask, m)) (w : Word) :
    decode f w = .ok i ↔
      (w &&& mask = m ∧
        (i = .dsNrdy → ∀ (j : Instr) (mask' m' : Word), j ≠ .dsNrdy → j.row = some (.sw, mask', m') →
          w &&& mask' ≠ m')) := by
  obtain ⟨d, rfl⟩ | ⟨c, rfl⟩ | ⟨b, rfl⟩ | ⟨op, hop⟩ :=
    i.cases_of_hasSelector (Instr.hasSelector_of_row h)
  · cases d.row_instr.symm.trans h
    have hdefault : d.instr = .dsNrdy ↔ d = .notReady :=
      DriveState.instr_injective.eq_iff (b := .notReady)
    rw [decode_sw_eq_instr, decodeStatus_eq_iff, d.matches_setWidth_iff, no_pattern_matches_iff,
      hdefault]
  · cases c.row_instr.symm.trans h
    rw [Instr.default_clause_iff_of_row h nofun, decode_ms_eq_instr]
  · cases b.row_instr.symm.trans h
    rw [Instr.default_clause_iff_of_row h nofun, decode_bs_eq_instr]
  · cases (Instr.row_of_opcode hop).symm.trans h
    rw [Instr.default_clause_iff_of_row h nofun, decode_hc_eq_ok_iff hop]

/-- Settles O1: each format's decode is an `↔` with the row's match, and a triggered operation has no
row. -/
theorem everyWordOfARowDecodesToItsOperation : Obligations.EveryWordOfARowDecodesToItsOperation := by
  refine ⟨fun i hi => ?_, fun i f mask m hrow => ⟨?_, decode_eq_ok_iff_of_row hrow⟩⟩
  · have hrow := Instr.row_eq_none_of_triggered hi
    exact ⟨by rw [encode, hrow], hrow⟩
  · rw [encode, hrow]

/-! ### Fixed words and codes -/

/-- Settles O5: the decoders evaluate on each word. -/
theorem wordsFromTheTableDecode : Obligations.WordsFromTheTableDecode :=
  ⟨rfl, rfl, rfl, rfl, rfl, rfl, rfl, rfl, rfl, rfl⟩

/-- Settles O6: the codes are the tables' own, and an event's code does not depend on what it records. -/
theorem enumerationCodes : Obligations.EnumerationCodes :=
  ⟨rfl, rfl, rfl, rfl, rfl, rfl, rfl, rfl, fun _ _ => rfl⟩

end Sys2Proof
end

section
/-! PROOFS. The Drive State Machine (40_drive_state_machine.md). Each DS operation is said once: the
five that leave the drive not enabled by one equation over the decoded state's control word, DS.OPEN by
the position it takes. The two flags and the drive phase are read off those. -/

namespace Sys2Proof.Machine

variable {s t u : State} {d : DriveState} {cw : Half}

/-! ### MP.ORIGIN and DS.OPEN (R86, R89) -/

/-- `s32(actual_position) * S2` is "exact and below 2^58" (R89): it is the scaled target of a state
whose `tgt` is the actual position. -/
theorem State.origin_range (h : s.params.legal = true) :
    -214748364800000000 ≤ s.actualPosition.toInt * s.s2 ∧
      s.actualPosition.toInt * s.s2 ≤ 214748364800000000 :=
  State.target_range (s := { s with tgt := s.actualPosition }) h

/-- MP.ORIGIN writes the product whole. -/
theorem State.takeOrigin_pos (h : s.params.legal = true) :
    s.takeOrigin.posRef.toInt = s.actualPosition.toInt * s.s2 := by
  obtain ⟨lower, upper⟩ := s.origin_range h
  exact toInt_ofInt64 (by omega) (by omega)

/-- Settles O19: the product is within 64 bits, so it is written whole. -/
theorem mpOriginSetsThePosition : Obligations.MpOriginSetsThePosition := by
  intro s h
  have product := State.takeOrigin_pos h
  refine ⟨s.takeOrigin, rfl, rfl, product, ?_⟩
  rw [product]
  have range := s.origin_range h
  omega

/-- DS.OPEN with the drive enabled clears `fault` only (R86). -/
theorem exec_dsOpen_enabled (hd : s.driveOp = true) : exec .dsOpen s = .next (s.setFault false) := by
  simp only [exec, execDsOpen, hd, if_true]

/-- DS.OPEN on a rising edge of `drive_op` takes the origin (R86). -/
theorem exec_dsOpen_rising (hd : s.driveOp = false) :
    exec .dsOpen s =
      .next { s with fault := false, driveOp := true, posRef := s.takeOrigin.posRef } := by
  simp only [exec, execDsOpen, hd, Bool.false_eq_true, if_false]
  rfl

/-- Settles O14: by the two edges of `drive_op`. -/
theorem dsOpenTakesTheOriginOnARisingEdge : Obligations.DsOpenTakesTheOriginOnARisingEdge := by
  intro s h
  cases hd : s.driveOp with
  | true => exact ⟨_, exec_dsOpen_enabled hd, by rw [← hd]; rfl, nofun, fun _ => rfl⟩
  | false => exact ⟨_, exec_dsOpen_rising hd, rfl, fun _ => State.takeOrigin_pos h, nofun⟩

/-! ### The operations that leave the drive not enabled (R82 to R85, R87, R88) -/

/-- The table issues a control word for every state but OperationEnabled (30_encoding.md R62, R65). -/
theorem controlWord_eq_none_iff : d.controlWord = none ↔ d = .operationEnabled := by
  cases d <;> simp [DriveState.controlWord]

/-- The five operations as one: `NotEnabled` with the state's control word, `fault` as R90 says, and
for DS.FAULT the event (R82). -/
theorem exec_drive_notEnabled (hcw : d.controlWord = some cw) (s : State) :
    exec d.instr s =
      .next { (s.setFault (decide (d = .fault))).notEnabled cw with
        trace := if d = .fault then .event (.driveFault s.statusWord) :: s.trace else s.trace } := by
  cases d with
  | operationEnabled => nomatch hcw
  | _ =>
    cases hcw
    simp only [DriveState.instr, exec, execDsFault, execDsSod, execDsRtso, execDsSon, execDsNrdy,
      State.notEnabled_eq, State.raise_eq, State.push]
    rfl

/-- `NotEnabled` leaves every byte outside its three fields alone: they are the first ten (R88,
20_memory.md R41). -/
theorem State.notEnabled_outside (cw : Half) (s : State) (a : Nat)
    (ha : ∀ f ∈ [OutField.controlWord, .targetPosition, .targetVelocity],
      a < OutField.offset f ∨ OutField.offset f + OutField.size f ≤ a) :
    (s.notEnabled cw).pdoOut.read a = s.pdoOut.read a := by
  refine s.notEnabled_rest cw a ?_
  simp only [List.forall_mem_cons, OutField.offset, OutField.size] at ha
  omega

/-- What the five operations leave in `PDO_OUT`: the control word, the actual position "bit for bit", no
velocity, and every other byte as it was (R88). -/
theorem exec_drive_outputs (hcw : d.controlWord = some cw) (hu : exec d.instr s = .next u) :
    u.readOut .controlWord = cw.toNat ∧ u.readOut .targetPosition = s.readIn .actualPosition ∧
      u.readOut .targetVelocity = 0 ∧
      ∀ a, (∀ f ∈ [OutField.controlWord, .targetPosition, .targetVelocity],
          a < OutField.offset f ∨ OutField.offset f + OutField.size f ≤ a) →
        u.pdoOut.read a = s.pdoOut.read a := by
  rw [exec_drive_notEnabled hcw] at hu
  injection hu with hu; subst hu
  exact ⟨State.notEnabled_controlWord cw _, State.notEnabled_targetPosition cw _,
    State.notEnabled_targetVelocity cw _, State.notEnabled_outside cw _⟩

/-- The rows of R82 to R85 and R87 are the states with a control word. -/
theorem exists_driveState_of_mem {i : Instr} {flt : Bool}
    (h : (i, cw, flt) ∈ [(Instr.dsFault, (0x0080 : Half), true), (.dsSod, 0x0006, false),
      (.dsRtso, 0x0007, false), (.dsSon, 0x000F, false), (.dsNrdy, 0x0000, false)]) :
    ∃ d : DriveState, d.controlWord = some cw ∧ i = d.instr ∧ flt = decide (d = .fault) := by
  simp only [List.mem_cons, Prod.mk.injEq, List.not_mem_nil, or_false] at h
  obtain ⟨rfl, rfl, rfl⟩ | ⟨rfl, rfl, rfl⟩ | ⟨rfl, rfl, rfl⟩ | ⟨rfl, rfl, rfl⟩ | ⟨rfl, rfl, rfl⟩ := h
  · exact ⟨.fault, rfl, rfl, rfl⟩
  · exact ⟨.switchOnDisabled, rfl, rfl, rfl⟩
  · exact ⟨.readyToSwitchOn, rfl, rfl, rfl⟩
  · exact ⟨.switchedOn, rfl, rfl, rfl⟩
  · exact ⟨.notReady, rfl, rfl, rfl⟩

/-- Settles O13: the five operations are `NotEnabled` of five states. -/
theorem notEnabledOperations : Obligations.NotEnabledOperations := by
  intro i cw flt hmem s
  obtain ⟨d, hcw, rfl, rfl⟩ := exists_driveState_of_mem hmem
  have effect := exec_drive_notEnabled hcw s
  refine ⟨_, effect, ?_, exec_drive_outputs hcw effect⟩
  have hfault : d.instr = .dsFault ↔ d = .fault := DriveState.instr_injective.eq_iff (b := .fault)
  simp only [State.notEnabled_eq, hfault]
  rfl

/-! ### The two flags (R90, R92) -/

/-- A DS operation writes `fault` and `drive_op` as its state's row says (R82 to R87, R90). -/
theorem exec_drive_flags (hu : exec d.instr s = .next u) :
    u.fault = decide (d = .fault) ∧ u.driveOp = decide (d = .operationEnabled) := by
  cases hcw : d.controlWord with
  | some cw =>
    have hne : d ≠ .operationEnabled := fun h => by simp [controlWord_eq_none_iff.mpr h] at hcw
    rw [exec_drive_notEnabled hcw] at hu
    injection hu with hu; subst hu
    simp [State.notEnabled_eq, hne]
  | none =>
    obtain rfl := controlWord_eq_none_iff.mp hcw
    cases hd : s.driveOp with
    | true => cases (exec_dsOpen_enabled hd).symm.trans hu; exact ⟨rfl, hd⟩
    | false => cases (exec_dsOpen_rising hd).symm.trans hu; exact ⟨rfl, rfl⟩

/-- Both flags hold the same values in both states. -/
def SameFlags (s t : State) : Prop := t.fault = s.fault ∧ t.driveOp = s.driveOp

/-- The step is the drive phase's, and both flags are as the state it decodes says (R80, R90). -/
def FlagsFromStatus (s t : State) : Prop :=
  s.phase = .drive ∧ t.fault = decide (decodeStatus s.statusWord = .fault) ∧
    t.driveOp = decide (decodeStatus s.statusWord = .operationEnabled)

/-- Among the steps of the core only the drive phase's writes the flags. -/
theorem CoreMove.flags (hm : CoreMove s t) : SameFlags s t ∨ FlagsFromStatus s t := by
  cases hm with
  | drive u hp hu =>
    obtain ⟨hf, hd⟩ := exec_drive_flags hu
    exact .inr ⟨hp, hf, hd⟩
  | idle => exact .inl ⟨rfl, rfl⟩
  | exchange => rw [State.exchange_frame]; exact .inl ⟨rfl, rfl⟩
  | monitor u _ hu => rw [(exec_bus_frame hu).1]; exact .inl ⟨rfl, rfl⟩
  | adopt u _ _ _ hu => injection hu with hu; subst hu; exact .inl ⟨rfl, rfl⟩
  | motion u _ hu => rw [exec_motion_frame hu]; exact .inl ⟨rfl, rfl⟩
  | velocity u _ hu =>
    injection hu with hu; subst hu
    rw [State.adoptVelocity_eq]
    exact .inl ⟨rfl, rfl⟩
  | outputs => rw [State.profilerOutputs_eq]; exact .inl ⟨rfl, rfl⟩
  | publish => rw [State.storeSnap_eq]; exact .inl ⟨rfl, rfl⟩
  | published => exact .inl ⟨rfl, rfl⟩
  | stopCheck => rw [State.stopCheck_frame]; exact .inl ⟨rfl, rfl⟩

/-- Only the drive phase writes the flags: the host owns neither (44_host_channel.md R182). -/
theorem Move.flags (hm : Move s t) : SameFlags s t ∨ FlagsFromStatus s t := by
  cases hm with
  | core _ hc => exact hc.flags
  | host _ hh => rw [hh.frame]; exact .inl ⟨rfl, rfl⟩
  | start _ hs ht => rw [(hcStart_frame hs ht).2]; exact .inl ⟨rfl, rfl⟩
  | time => exact .inl ⟨rfl, rfl⟩
  | tick => rw [State.beginTick, State.setWake_frame]; exact .inl ⟨rfl, rfl⟩

/-- Settles O16: a reset clears both flags, and a move keeps them or sets each for its own decoded
state, and the status word decodes to one. -/
theorem faultExcludesDriveOperational : Obligations.FaultExcludesDriveOperational := by
  intro s t hstep hs
  obtain ⟨rest, -, rfl⟩ | ⟨rest, hm⟩ := step_move hstep
  · exact fun ⟨hf, _⟩ => Bool.noConfusion hf
  · obtain ⟨hf, hd⟩ | ⟨-, hf, hd⟩ := hm.flags
    · rw [hf, hd]; exact hs
    · rw [hf, hd, decide_eq_true_eq, decide_eq_true_eq]
      exact fun ⟨isFault, isEnabled⟩ => DriveState.noConfusion (isFault.symm.trans isEnabled)

/-! ### The two phases (R80, R81; 43_bus_state_monitor.md R161) -/

/-- DS.OPEN writes no field of `PDO_OUT` (R86). -/
theorem exec_dsOpen_pdoOut (hu : exec .dsOpen s = .next u) : u.pdoOut = s.pdoOut := by
  cases hd : s.driveOp with
  | true => cases (exec_dsOpen_enabled hd).symm.trans hu; rfl
  | false => cases (exec_dsOpen_rising hd).symm.trans hu; rfl

/-- Settles O15: the phase runs the decoded state's operation, and goes on by `drive_op`. -/
theorem drivePhaseWritesFlagsAndControlWord : Obligations.DrivePhaseWritesFlagsAndControlWord := by
  intro s pick hp
  obtain ⟨t, ht⟩ := coreStep_completes pick s
  refine ⟨t, ht, ?_⟩
  rw [coreStep_drive hp] at ht
  obtain ⟨u, hu, rfl⟩ := runOp_next ht
  rw [hp]
  obtain ⟨hf, hd⟩ := exec_drive_flags hu
  have issues (cw : Half) {d : DriveState} (hcw : d.controlWord = some cw)
      (h : decodeStatus s.statusWord = d) : u.readOut .controlWord = cw.toNat := by
    rw [decodeSw, h] at hu
    exact (exec_drive_outputs hcw hu).1
  refine ⟨hf, hd, issues 0x0080 rfl, issues 0x0006 rfl, issues 0x0007 rfl, issues 0x000F rfl,
    issues 0x0000 rfl, fun h => ⟨?_, ?_⟩, fun h => ?_⟩
  · rw [(decodeSw_eq_dsOpen _).mpr h] at hu
    exact (exec_dsOpen_pdoOut hu :)
  · exact if_pos (hd.trans (decide_eq_true h))
  · exact if_neg (by simp [hd, h])

/-- Settles O18: a BS operation writes none of the three, and the tick goes on by `bus_state`. -/
theorem drivePhaseRunsOnlyWhenOperational : Obligations.DrivePhaseRunsOnlyWhenOperational := by
  intro s pick hp
  obtain ⟨t, ht⟩ := coreStep_completes pick s
  refine ⟨t, ht, ?_⟩
  rw [coreStep_monitor hp] at ht
  obtain ⟨u, hu, rfl⟩ := runOp_next ht
  obtain ⟨frame, -⟩ := exec_bus_frame hu
  rw [hp]
  refine ⟨?_, ?_, ?_, fun h => if_pos h, fun h => if_neg h⟩ <;> rw [frame]

end Sys2Proof.Machine
end

section
/-! PROOFS. A tick that sees the fault bit (40_drive_state_machine.md R92): what the exchange delivers,
which operation phase 3 then runs, and what the publish phase shows. -/

namespace Sys2Proof.Machine

variable {s u : State}

/-! ### Phases 0 to 2 -/

/-- The value a field of a record is delivered with (20_memory.md R42). -/
def InRecord.value (r : InRecord) : InField → Nat
  | .statusWord => r.statusWord.toNat
  | .actualPosition => r.actualPosition.toNat
  | .actualVelocity => r.actualVelocity.toNat
  | .actualTorque => r.actualTorque.toNat
  | .followingError => r.followingError.toNat
  | .modeDisplay => r.modeDisplay.toNat
  | .touchProbeStatus => r.touchProbeStatus.toNat
  | .touchProbePosition => r.touchProbePosition.toNat

/-- Each field of a delivered record reads back: the fields stored after it are disjoint from it
(20_memory.md R42, R43). -/
theorem InRecord.loadLE_toMemory (r : InRecord) (f : InField) :
    r.toMemory.loadLE (InField.offset f) (InField.size f) = r.value f := by
  cases f <;> simp only [InRecord.toMemory, InField.offset, InField.size]
  all_goals
    repeat rw [Memory.loadLE_storeLE_disjoint _ _ _ _ _ _ (by decide)]
    rw [Memory.loadLE_storeLE_same]
    exact Nat.mod_eq_of_lt (BitVec.isLt _)

/-- Phases 0 and 1 take up the answers of the tick and its record and leave the bus state alone
(42_cyclic_scheduler.md R142, R143). -/
theorem State.beginTick_exchange (inp : TickInput) (s : State) :
    (s.beginTick inp).exchange.wkcCheck.busState = s.busState ∧
      (s.beginTick inp).exchange.wkcCheck.tickIn = inp ∧
      (s.beginTick inp).exchange.wkcCheck.pdoIn = inp.record.toMemory := by
  have delivered : (s.beginTick inp).exchange.wkcCheck.pdoIn = inp.record.toMemory := by
    obtain ⟨-, e⟩ | ⟨-, e⟩ := (s.beginTick inp).exchange.wkcCheck_cases <;> rw [e] <;> rfl
  refine ⟨?_, ?_, delivered⟩ <;> rw [State.exchange_frame, State.beginTick, State.setWake_frame]

/-- The bus is Operational after phase 2 if it was before, or if BS.REQ sees the answer
(43_bus_state_monitor.md R163, R164). -/
theorem exec_bus_operational
    (hb : s.busState = .operational ∨
      (s.busState = .requestingOperational ∧ s.tickIn.busIsErr = false ∧ s.tickIn.busIsOp = true))
    (hu : exec s.busState.instr s = .next u) : u.busState = .operational := by
  obtain hb | ⟨hb, herr, hop⟩ := hb <;> rw [hb] at hu
  · injection hu with hu; subst hu; exact hb
  · simp only [BusState.instr, exec, execBsReq, herr, hop, Bool.false_eq_true, if_false, if_true] at hu
    injection hu with hu; subst hu; rfl

/-! ### Phases 6 and 7 -/

@[simp] theorem State.storeSnap_pdoOut (r : SnapReg) (s : State) : (s.storeSnap r).pdoOut = s.pdoOut := by
  rw [State.storeSnap_eq]

@[simp] theorem State.storeSnap_fault (r : SnapReg) (s : State) : (s.storeSnap r).fault = s.fault := by
  rw [State.storeSnap_eq]

@[simp] theorem State.storeSnap_driveOp (r : SnapReg) (s : State) :
    (s.storeSnap r).driveOp = s.driveOp := by
  rw [State.storeSnap_eq]

/-- `SNAP_CW` is written by its own store only (44_host_channel.md R176). -/
theorem State.storeSnap_snapCw (r : SnapReg) (s : State) :
    (s.storeSnap r).snapCw = if r = .cw then BitVec.ofNat 32 (s.readOut .controlWord) else s.snapCw := by
  cases r <;> rfl

/-- `SNAP_FAULT` is written by its own store only (44 R176). -/
theorem State.storeSnap_snapFault (r : SnapReg) (s : State) :
    (s.storeSnap r).snapFault = if r = .fault then flagWord s.fault else s.snapFault := by
  cases r <;> rfl

/-- Phases 6 and 7 leave `PDO_OUT` and the flags alone and publish the control word and `fault` as they
stand (44 R176, 42 R146). -/
theorem State.publishAll_stopCheck_frame (s : State) :
    s.publishAll.stopCheck.pdoOut = s.pdoOut ∧ SameFlags s s.publishAll.stopCheck ∧
      s.publishAll.stopCheck.snapCw = BitVec.ofNat 32 (s.readOut .controlWord) ∧
      s.publishAll.stopCheck.snapFault = flagWord s.fault := by
  rw [State.stopCheck_frame]
  simp [State.publishAll, SnapReg.all, SameFlags, State.storeSnap_snapCw, State.storeSnap_snapFault,
    State.readOut]

/-! ### Phase 3, and the whole tick -/

/-- Bit 3 of the status word selects DS.FAULT, whatever the other bits are (R81, R92). -/
theorem decodeStatus_of_faultBit {sw : Half} (h : sw.getLsbD 3 = true) : decodeStatus sw = .fault := by
  rw [decodeStatus_eq_closedForm]
  exact if_pos h

/-- Phase 3 with the bus Operational and the fault bit set is DS.FAULT, and the profiler is not run
(R80, R82; 41_motion_profiler.md R100). -/
theorem drivePhase_of_faultBit (hb : s.busState = .operational)
    (hbit : s.statusWord.getLsbD 3 = true) : drivePhase s = exec .dsFault s := by
  have selected : decodeSw s.statusWord = .dsFault :=
    (decodeSw_eq_dsFault _).mpr (decodeStatus_of_faultBit hbit)
  obtain ⟨u, hu⟩ := exec_completes .dsFault s
  obtain ⟨-, disabled⟩ := exec_drive_flags (d := .fault) hu
  rw [drivePhase, if_pos hb, selected, hu, andThen]
  exact if_neg (by simp [disabled])

/-- Settles O17: phase 3 reads the word phase 1 delivered, and phases 6 and 7 leave what DS.FAULT
wrote. -/
theorem faultBitHoldsFaultReset : Obligations.FaultBitHoldsFaultReset := by
  intro s t inp hb hbit htick
  obtain ⟨bus, answers, delivered⟩ := s.beginTick_exchange inp
  simp only [wholeTick] at htick
  generalize (s.beginTick inp).exchange.wkcCheck = a at htick bus answers delivered
  obtain ⟨b, hmon⟩ := exec_completes a.busState.instr a
  have operational : b.busState = .operational :=
    exec_bus_operational (by rw [bus, answers]; exact hb) hmon
  have read (f : InField) : b.readIn f = inp.record.value f := by
    rw [State.readIn, (exec_bus_frame hmon).1, delivered, InRecord.loadLE_toMemory]
  have status : b.statusWord = inp.record.statusWord := by
    rw [State.statusWord, read, InRecord.value, BitVec.ofNat_toNat, BitVec.setWidth_eq]
  obtain ⟨c, hfault⟩ := exec_completes .dsFault b
  obtain ⟨flagSet, disabled⟩ := exec_drive_flags (d := .fault) hfault
  obtain ⟨controlWord, targetPosition, targetVelocity, -⟩ :=
    exec_drive_outputs (d := .fault) rfl hfault
  obtain ⟨out, ⟨fault, driveOp⟩, snapCw, snapFault⟩ := c.publishAll_stopCheck_frame
  rw [hmon, andThen, drivePhase_of_faultBit operational (status ▸ hbit), hfault, andThen] at htick
  injection htick with htick; subst htick
  have field (f : OutField) : c.publishAll.stopCheck.readOut f = c.readOut f := by
    rw [State.readOut, out, ← State.readOut]
  exact ⟨(field _).trans controlWord, fault.trans flagSet, driveOp.trans disabled,
    (field _).trans (targetPosition.trans (read .actualPosition)), (field _).trans targetVelocity,
    snapCw.trans (by rw [controlWord]; rfl), snapFault.trans (by rw [flagSet]; rfl)⟩

end Sys2Proof.Machine
end

section
/-! PROOFS. The three operations that ramp (41_motion_profiler.md R106 to R108). Each is said once by the
updates it can make; `Advanced` says what such an update leaves in the 64-bit registers when the
parameters are legal, and every statement about a ramp is read off that. -/

namespace Sys2Proof.Machine

variable {s t : State} {m : MotionState} {v : Int}

/-! ### The conditions (R104, R106, R108) -/

theorem State.near_iff :
    s.near = true ↔ 2 * s.accel * (s.distance.natAbs : Int) ≤ s.vel * s.vel :=
  decide_eq_true_iff

theorem State.not_near_iff :
    s.near = false ↔ ¬ 2 * s.accel * (s.distance.natAbs : Int) ≤ s.vel * s.vel :=
  decide_eq_false_iff_not

theorem State.atLimit_iff : s.atLimit = true ↔ s.velLimit ≤ (s.vel.natAbs : Int) :=
  decide_eq_true_iff

theorem State.not_atLimit_iff : s.atLimit = false ↔ ¬ s.velLimit ≤ (s.vel.natAbs : Int) :=
  decide_eq_false_iff_not

theorem State.arrived_iff :
    s.arrived = true ↔
      s.direction * s.vel ≤ 0 ∨ (s.distance.natAbs : Int) < (s.params.posTol : Int) * s.s2 ∨
        s.vel.sign * s.distance < 0 := by
  simp only [State.arrived, Bool.or_eq_true, decide_eq_true_eq, or_assoc]

/-- The direction is +1 exactly toward a target that is not behind (R104: "ties default to +1"). -/
theorem State.direction_eq_one_iff : s.direction = 1 ↔ 0 ≤ s.distance := by
  unfold State.direction; split <;> simp [*]

/-! ### The velocity updates by the side of the target (R105) -/

theorem State.velAcc_direction (s : State) (v a lim : Int) :
    velAcc s.direction v a lim = if 0 ≤ s.distance then min (v + a) lim else max (v - a) (-lim) := by
  simp only [velAcc, State.direction_eq_one_iff]

theorem State.velDec_direction (s : State) (v a : Int) :
    velDec s.direction v a = if 0 ≤ s.distance then max (v - a) 0 else min (v + a) 0 := by
  simp only [velDec, State.direction_eq_one_iff]

theorem State.velCru_direction (s : State) (lim : Int) :
    velCru s.direction lim = if 0 ≤ s.distance then lim else -lim := by
  unfold velCru State.direction; split <;> simp

/-! ### What a ramp leaves (R105, R110) -/

/-- `t` is `s` after a velocity update of R105 to the integer `v` and `PosStep`, in motion state `m`. -/
structure Advanced (s t : State) (m : MotionState) (v : Int) : Prop where
  frame : t = { s with motionState := t.motionState, velRef := t.velRef, posRef := t.posRef }
  motion : t.motionState = m
  vel : t.velRef.toInt = v
  pos : t.posRef.toInt = sat64 (s.pos + v)
  /-- the last sentence of R105 -/
  speed : (v.natAbs : Int) ≤ max (s.vel.natAbs : Int) s.velLimit

/-- A ramp to a velocity that the registers hold whole, whatever motion state is written with it. -/
theorem Advanced.ramp (hl : s.params.legal = true) (m : MotionState)
    (hv : (v.natAbs : Int) ≤ max (s.vel.natAbs : Int) s.velLimit) (hmax : v < 9223372036854775808) :
    Advanced s { s.ramp v with motionState := m } m v := by
  have written := State.vel_written hl hv (by omega)
  exact ⟨rfl, rfl, written, (State.ramp_pos v s).trans (by rw [written]), hv⟩

theorem Advanced.accelerate (hl : s.params.legal = true) :
    Advanced s s.accelerate s.motionState (velAcc s.direction s.vel s.accel s.velLimit) := by
  refine .ramp hl s.motionState
    (natAbs_velAcc_le (Int.natCast_nonneg _) (State.velLimit_range hl).1) ?_
  have limit := State.velLimit_range hl
  have old := toInt64_range s.velRef
  have acc : 0 ≤ s.accel := Int.natCast_nonneg _
  have vel : s.vel = s.velRef.toInt := rfl
  unfold velAcc
  split <;> omega

theorem Advanced.cruise (hl : s.params.legal = true) (m : MotionState) :
    Advanced s { s.cruise with motionState := m } m (velCru s.direction s.velLimit) := by
  have limit := State.velLimit_range hl
  have speed := natAbs_velCru s.direction_cases limit.1
  exact .ramp hl m (by omega) (by omega)

theorem Advanced.decelerate (hl : s.params.legal = true) (m : MotionState) :
    Advanced s { s.decelerate with motionState := m } m (velDec s.direction s.vel s.accel) := by
  have slower : ((velDec s.direction s.vel s.accel).natAbs : Int) ≤ s.vel.natAbs :=
    natAbs_velDec_le (Int.natCast_nonneg _)
  refine .ramp hl m (by omega) ?_
  have old := toInt64_range s.velRef
  have acc : 0 ≤ s.accel := Int.natCast_nonneg _
  have vel : s.vel = s.velRef.toInt := rfl
  unfold velDec
  split <;> omega

/-! ### The three operations, by their branches -/

/-- MP.ACC (R106). -/
theorem exec_mpAcc_cases (h : exec .mpAcc s = .next t) :
    (s.near = true ∧ t = s.enterDecelerating) ∨
      (s.near = false ∧ s.atLimit = true ∧ t = s.enterCruising) ∨
      (s.near = false ∧ s.atLimit = false ∧ t = s.accelerate) := by
  simp only [exec, execMpAcc] at h
  split at h
  next hn => injection h with h; exact .inl ⟨hn, h.symm⟩
  next hn =>
    have hn := eq_false_of_ne_true hn
    split at h <;> injection h with h
    next ha => exact .inr (.inl ⟨hn, ha, h.symm⟩)
    next ha => exact .inr (.inr ⟨hn, eq_false_of_ne_true ha, h.symm⟩)

/-- MP.CRU (R107). -/
theorem exec_mpCru_cases (h : exec .mpCru s = .next t) :
    (s.near = true ∧ t = s.enterDecelerating) ∨ (s.near = false ∧ t = s.cruise) := by
  simp only [exec, execMpCru] at h
  split at h <;> injection h with h
  next hn => exact .inl ⟨hn, h.symm⟩
  next hn => exact .inr ⟨eq_false_of_ne_true hn, h.symm⟩

/-- MP.DEC (R108), as a function: it always completes. -/
def State.mpDec (s : State) : State := if s.arrived then s.arrive else s.decelerate

theorem exec_mpDec (s : State) : exec .mpDec s = .next s.mpDec := by
  simp only [exec, execMpDec, State.mpDec]
  split <;> rfl

theorem State.mpDec_of_arrived (h : s.arrived = true) : s.mpDec = s.arrive := if_pos h

theorem State.mpDec_of_not_arrived (h : s.arrived = false) : s.mpDec = s.decelerate :=
  if_neg (by simp [h])

/-- The arrival writes exactly the target (R108 corner (e)). -/
theorem State.arrive_pos (hl : s.params.legal = true) : s.arrive.posRef.toInt = s.target := by
  have range := State.target_range hl
  exact toInt_ofInt64 (by omega) (by omega)

/-! ### The operations as the rules state them -/

/-- `PosStep` with the velocity the register now holds (R110). -/
theorem Advanced.posStep (h : Advanced s t m v) :
    t.posRef.toInt = sat64 (s.posRef.toInt + t.velRef.toInt) := by
  rw [h.pos, h.vel]; rfl

/-- Settles O22: one case a branch of R106. -/
theorem mpAccRampsUp : Obligations.MpAccRampsUp := by
  intro s hl
  obtain ⟨t, ht⟩ := exec_completes .mpAcc s
  refine ⟨t, ht, ?_⟩
  obtain ⟨hn, rfl⟩ | ⟨hn, ha, rfl⟩ | ⟨hn, ha, rfl⟩ := exec_mpAcc_cases ht
  · have step := Advanced.decelerate hl .decelerating
    refine ⟨step.frame, (if_pos (State.near_iff.mp hn)).mpr ?_, step.posStep⟩
    exact ⟨step.motion, step.vel.trans (s.velDec_direction _ _)⟩
  · have step := Advanced.cruise hl .cruising
    refine ⟨step.frame, (if_neg (State.not_near_iff.mp hn)).mpr ?_, step.posStep⟩
    exact (if_pos (State.atLimit_iff.mp ha)).mpr
      ⟨step.motion, step.vel.trans (s.velCru_direction _)⟩
  · have step := Advanced.accelerate hl
    refine ⟨step.frame, (if_neg (State.not_near_iff.mp hn)).mpr ?_, step.posStep⟩
    exact (if_neg (State.not_atLimit_iff.mp ha)).mpr
      ⟨step.motion, step.vel.trans (s.velAcc_direction _ _ _)⟩

/-- Settles O23: one case a branch of R107. -/
theorem mpCruHoldsTheLimit : Obligations.MpCruHoldsTheLimit := by
  intro s hl
  obtain ⟨t, ht⟩ := exec_completes .mpCru s
  refine ⟨t, ht, ?_⟩
  obtain ⟨hn, rfl⟩ | ⟨hn, rfl⟩ := exec_mpCru_cases ht
  · have step := Advanced.decelerate hl .decelerating
    refine ⟨step.frame, (if_pos (State.near_iff.mp hn)).mpr ?_, step.posStep⟩
    exact ⟨step.motion, step.vel.trans (s.velDec_direction _ _)⟩
  · have step := Advanced.cruise hl s.motionState
    refine ⟨step.frame, (if_neg (State.not_near_iff.mp hn)).mpr ?_, step.posStep⟩
    exact ⟨step.motion, step.vel.trans (s.velCru_direction _)⟩

/-- Settles O24: one case a branch of R108. -/
theorem mpDecRampsDownOrArrives : Obligations.MpDecRampsDownOrArrives := by
  intro s hl
  refine ⟨s.mpDec, exec_mpDec s, ?_⟩
  cases ha : s.arrived with
  | true =>
    rw [State.mpDec_of_arrived ha]
    exact ⟨rfl, (if_pos (State.arrived_iff.mp ha)).mpr ⟨rfl, rfl, State.arrive_pos hl⟩⟩
  | false =>
    rw [State.mpDec_of_not_arrived ha]
    have step := Advanced.decelerate hl s.motionState
    refine ⟨step.frame, (if_neg (mt State.arrived_iff.mpr (by simp [ha]))).mpr ?_⟩
    exact ⟨step.motion, step.vel.trans (s.velDec_direction _ _), step.posStep⟩

/-! ### The speed bound (R105, R102) -/

/-- Settles O27: each branch is a ramp, whose speed R105 bounds, or the arrival at rest. -/
theorem rampNeverExceedsOldSpeedOrLimit : Obligations.RampNeverExceedsOldSpeedOrLimit := by
  intro i s t hi hl ht
  have bound {t : State} {m : MotionState} {v : Int} (step : Advanced s t m v) :
      (t.velRef.toInt.natAbs : Int) ≤ max (s.vel.natAbs : Int) s.velLimit := by
    rw [step.vel]; exact step.speed
  have slowing := bound (Advanced.decelerate hl .decelerating)
  simp only [List.mem_cons, List.not_mem_nil, or_false] at hi
  obtain rfl | rfl | rfl := hi
  · obtain ⟨-, rfl⟩ | ⟨-, -, rfl⟩ | ⟨-, -, rfl⟩ := exec_mpAcc_cases ht
    · exact slowing
    · exact bound (Advanced.cruise hl .cruising)
    · exact bound (Advanced.accelerate hl)
  · obtain ⟨-, rfl⟩ | ⟨-, rfl⟩ := exec_mpCru_cases ht
    · exact slowing
    · exact bound (Advanced.cruise hl s.motionState)
  · rw [exec_mpDec] at ht
    injection ht with ht; subst ht
    cases ha : s.arrived with
    | true =>
      rw [State.mpDec_of_arrived ha]
      exact Int.le_trans (Int.natCast_nonneg _) (Int.le_max_left _ _)
    | false =>
      rw [State.mpDec_of_not_arrived ha]
      exact bound (Advanced.decelerate hl s.motionState)

/-! ### Cruising toward the target (R107, 70_reset_and_hazards.md R217) -/

/-- Outside the deceleration window at full speed, the target is more than one tick's travel away: the
window is at least that wide (R107). -/
theorem State.velLimit_lt_distance (ha : 1 ≤ s.accel) (hwide : 2 * s.accel ≤ s.velLimit)
    (hfull : (s.vel.natAbs : Int) = s.velLimit) (hn : s.near = false) :
    s.velLimit < (s.distance.natAbs : Int) := by
  have square : s.vel * s.vel = s.velLimit * s.velLimit := by
    rw [← hfull, Int.natAbs_mul_self' s.vel]
  have outside := Int.not_le.mp (State.not_near_iff.mp hn)
  refine Int.lt_of_mul_lt_mul_left (a := 2 * s.accel) ?_ (by omega)
  calc 2 * s.accel * s.velLimit
      ≤ s.velLimit * s.velLimit := Int.mul_le_mul_of_nonneg_right hwide (by omega)
    _ = s.vel * s.vel := square.symm
    _ < 2 * s.accel * (s.distance.natAbs : Int) := outside

/-- Settles O28: the step goes toward the target by less than the distance, and short of the target
`pos_ref` does not saturate. -/
theorem cruisingCannotStepOverTheTarget : Obligations.CruisingCannotStepOverTheTarget := by
  intro s t hl ha hwide hfull ht hcruising _
  obtain ⟨-, rfl⟩ | ⟨hn, rfl⟩ := exec_mpCru_cases ht
  · exact nomatch hcruising
  · have far := State.velLimit_lt_distance (s := s) (Int.ofNat_le.mpr ha) hwide hfull hn
    have position : s.cruise.pos = sat64 (s.pos + velCru s.direction s.velLimit) :=
      (Advanced.cruise hl s.motionState).pos
    rw [s.velCru_direction] at position
    have limit := State.velLimit_range hl
    have target := State.target_range hl
    have range : -9223372036854775808 ≤ s.pos ∧ s.pos ≤ 9223372036854775807 := toInt64_range s.posRef
    have before : s.distance = s.target - s.pos := rfl
    have after : s.cruise.distance = s.target - s.cruise.pos := rfl
    unfold sat64 at position
    refine ⟨fun hd => ?_, fun hd => ?_, fun hd => ?_⟩
    · rw [if_pos (by omega)] at position; omega
    · rw [if_neg (by omega)] at position; omega
    · omega

/-! ### Decelerating arrives (R108 corners (a), (d)) -/

/-- Short of arrival the velocity points to the target (R108, the first condition). -/
theorem State.toward_of_not_arrived (ha : s.arrived = false) : 0 < s.direction * s.vel :=
  Int.not_le.mp fun hle =>
    Bool.noConfusion (ha.symm.trans (State.arrived_iff.mpr (.inl hle)))

/-- `VelDec` takes `acc` off a speed toward the target, down to 0 (R105). -/
theorem natAbs_velDec_of_toward {d : Int} (hd : d = 1 ∨ d = -1) (toward : 0 < d * v) (a : Nat) :
    (velDec d v a).natAbs = v.natAbs - a := by
  unfold velDec
  obtain rfl | rfl := hd
  · rw [if_pos rfl]; omega
  · rw [if_neg (by decide)]; omega

/-- So does a tick of MP.DEC that does not arrive (R108). -/
theorem State.decelerate_speed (hl : s.params.legal = true) (ha : s.arrived = false) :
    s.decelerate.velRef.toInt.natAbs = s.velRef.toInt.natAbs - s.acc.toNat := by
  rw [(Advanced.decelerate hl s.motionState).vel]
  exact natAbs_velDec_of_toward s.direction_cases (State.toward_of_not_arrived ha) _

/-- At rest MP.DEC arrives: the velocity does not point to the target (R108). -/
theorem State.arrived_of_rest (hv : s.velRef.toInt.natAbs = 0) : s.arrived = true := by
  have rest : s.vel = 0 := Int.natAbs_eq_zero.mp hv
  exact State.arrived_iff.mpr (.inl (Int.le_of_eq (by rw [rest, Int.mul_zero])))

/-- The state after `n` ticks of MP.DEC of its own. -/
def State.mpDecTicks : Nat → State → State
  | 0, s => s
  | n + 1, s => State.mpDecTicks n s.mpDec

/-- The last of the ticks is one of MP.DEC too. -/
theorem State.mpDecTicks_succ_last (n : Nat) (s : State) :
    s.mpDecTicks (n + 1) = (s.mpDecTicks n).mpDec := by
  induction n generalizing s with
  | zero => rfl
  | succ n ih => exact ih s.mpDec

theorem exec_mpDec_mpDecTicks (n : Nat) (s : State) :
    exec .mpDec (s.mpDecTicks n) = .next (s.mpDecTicks (n + 1)) := by
  rw [State.mpDecTicks_succ_last, exec_mpDec]

/-- MP.DEC runs `k` ticks without arriving and arrives, at exactly the target, in the next. -/
structure ArrivesAfter (s : State) (k : Nat) : Prop where
  moving : ∀ j, j ≤ k → (s.mpDecTicks j).motionState = .decelerating
  idle : (s.mpDecTicks (k + 1)).motionState = .idle
  rest : (s.mpDecTicks (k + 1)).velRef = 0
  pos : (s.mpDecTicks (k + 1)).posRef.toInt = s.target

/-- An arrival ends the move in one tick, whatever speed is left (R108). -/
theorem ArrivesAfter.zero (hl : s.params.legal = true) (hm : s.motionState = .decelerating)
    (ha : s.arrived = true) : ArrivesAfter s 0 := by
  have now : s.mpDecTicks (0 + 1) = s.arrive := State.mpDec_of_arrived ha
  refine ⟨fun j hj => ?_, ?_, ?_, ?_⟩
  · rw [Nat.le_zero.mp hj]; exact hm
  all_goals rw [now]
  · rfl
  · rfl
  · exact State.arrive_pos hl

/-- A tick that does not arrive leaves the target and `motion_state` as they are (R108). -/
theorem ArrivesAfter.succ {k : Nat} (hm : s.motionState = .decelerating) (ha : s.arrived = false)
    (h : ArrivesAfter s.decelerate k) : ArrivesAfter s (k + 1) := by
  have later (j : Nat) : s.mpDecTicks (j + 1) = s.decelerate.mpDecTicks j := by
    rw [State.mpDecTicks, State.mpDec_of_not_arrived ha]
  refine ⟨fun j hj => ?_, ?_, ?_, ?_⟩
  · cases j with
    | zero => exact hm
    | succ j => rw [later]; exact h.moving j (Nat.le_of_succ_le_succ hj)
  all_goals rw [later]
  · exact h.idle
  · exact h.rest
  · exact h.pos

/-- With at most `n` ticks' worth of speed left, at most `n` ticks pass before the one that arrives:
each takes one tick's worth off. -/
theorem exists_arrivesAfter (n : Nat) (hl : s.params.legal = true)
    (hm : s.motionState = .decelerating) (hn : s.velRef.toInt.natAbs ≤ n * s.acc.toNat) :
    ∃ k ≤ n, ArrivesAfter s k := by
  induction n generalizing s with
  | zero => exact ⟨0, Nat.le_refl 0, .zero hl hm (State.arrived_of_rest (by omega))⟩
  | succ n ih =>
    cases ha : s.arrived with
    | true => exact ⟨0, Nat.zero_le _, .zero hl hm ha⟩
    | false =>
      have slower : s.decelerate.velRef.toInt.natAbs ≤ n * s.acc.toNat := by
        rw [State.decelerate_speed hl ha]
        rw [Nat.succ_mul] at hn
        omega
      obtain ⟨k, hk, arrives⟩ := ih (s := s.decelerate) hl hm slower
      exact ⟨k + 1, Nat.succ_le_succ hk, arrives.succ hm ha⟩

/-- Settles O29: `ceil(abs(vel_ref) / acc)` ticks take the whole speed off, and one more arrives. -/
theorem deceleratingArrivesInBoundedTicks : Obligations.DeceleratingArrivesInBoundedTicks := by
  intro s hl ha hm
  have enough : s.velRef.toInt.natAbs ≤
      (s.velRef.toInt.natAbs + s.acc.toNat - 1) / s.acc.toNat * s.acc.toNat := by
    have := Nat.lt_div_mul_add (a := s.velRef.toInt.natAbs + s.acc.toNat - 1) ha
    omega
  obtain ⟨k, hk, arrives⟩ := exists_arrivesAfter _ hl hm enough
  exact ⟨k + 1, fun j => s.mpDecTicks j, Nat.le_add_left 1 k, Nat.succ_le_succ hk, rfl,
    fun j hj => ⟨arrives.moving j (Nat.le_of_lt_succ hj), exec_mpDec_mpDecTicks j s⟩, arrives.idle,
    arrives.rest, arrives.pos⟩

end Sys2Proof.Machine
end

section
/-! PROOFS. The operations that a tick or the Drive State Machine triggers (41_motion_profiler.md R103,
R112, R113), MP.IDLE (R109), and the outputs while the drive is enabled (R111, R114). -/

namespace Sys2Proof.Machine

variable {s t : State}

/-! ### MP.ABORT and MP.IDLE (R112, R109) -/

/-- Settles O20: MP.ABORT is this update. -/
theorem mpAbortForgetsTheMove : Obligations.MpAbortForgetsTheMove := fun _ => rfl

/-- Settles O25: MP.IDLE has no update. -/
theorem mpIdleChangesNothing : Obligations.MpIdleChangesNothing := fun _ => rfl

/-! ### MP.ADOPT (R103) -/

/-- An absolute target is taken as it is (R103). -/
theorem State.adoptedTarget_of_ne_relative (h : s.pendKind ≠ .relative) :
    s.adoptedTarget = s.pendTarget := by
  unfold State.adoptedTarget
  cases hk : s.pendKind with
  | relative => exact absurd hk h
  | absolute | velocity => rfl

/-- A relative target is measured from the commanded position in counts (R103 corner (d)). -/
theorem State.adoptedTarget_of_relative (h : s.pendKind = .relative) :
    s.adoptedTarget.toInt = sat32 (s.counts + s.pendTarget.toInt) := by
  unfold State.adoptedTarget
  rw [h]
  exact toInt_ofInt_sat32 _

/-- Settles O21: the adopted target by the kind of the command; the rest is the update itself. -/
theorem mpAdoptTakesThePendingCommand : Obligations.MpAdoptTakesThePendingCommand :=
  fun _ => ⟨_, rfl, rfl, State.adoptedTarget_of_ne_relative, State.adoptedTarget_of_relative⟩

/-! ### MP.VEL (R113) -/

/-- The velocity MP.VEL commands: the adopted one, 0 while none is active (R113). -/
theorem State.adoptVelocity_commanded (s : State) :
    (if s.adoptVelocity.velActive then s.adoptVelocity.velCmd.toNat else 0) =
      if s.cmdPending then s.pendTarget.toNat else if s.velActive then s.velCmd.toNat else 0 := by
  rw [State.adoptVelocity_eq]
  cases s.cmdPending <;> rfl

/-- A value that fits its field is read back whole (20_memory.md R43). -/
theorem State.readOut_writeOut_of_lt {f : OutField} {v : Nat} (h : v < 256 ^ OutField.size f)
    (s : State) : (s.writeOut f v).readOut f = v := by
  rw [State.readOut_writeOut_same, Nat.mod_eq_of_lt h]

/-- Settles O26: the two fields are disjoint, and each holds its 32-bit value whole. -/
theorem mpVelPassesTheVelocityThrough : Obligations.MpVelPassesTheVelocityThrough := by
  intro s
  have fits : (if s.adoptVelocity.velActive then s.adoptVelocity.velCmd.toNat else 0) < 256 ^ 4 := by
    have := s.adoptVelocity.velCmd.isLt
    split <;> omega
  refine ⟨_, rfl, ?_, ?_, ?_, fun a ha => ?_⟩
  · simp only [State.adoptVelocity_eq]; rfl
  · rw [State.readOut_writeOut_other _ _ _ _ (by decide), State.readOut_writeOut_of_lt fits,
      State.adoptVelocity_commanded]
  · exact State.readOut_writeOut_of_lt (Memory.loadLE_lt _ _ _) _
  · rw [State.read_writeOut_outside _ _ _ _ (ha .targetPosition (by decide)),
      State.read_writeOut_outside _ _ _ _ (ha .targetVelocity (by decide)), State.adoptVelocity_eq]

/-! ### The outputs while the drive is enabled (R111, R114) -/

/-- Every byte outside the fields of the mode is as it was: in position mode the control word and the
two targets, else the control word only (R111, R114). -/
theorem State.profilerOutputs_outside (s : State) (a : Nat)
    (ha : ∀ f ∈ (if s.mode = s.params.modePos then
        [OutField.controlWord, .targetPosition, .targetVelocity] else [.controlWord]),
      a < OutField.offset f ∨ OutField.offset f + OutField.size f ≤ a) :
    s.profilerOutputs.pdoOut.read a = s.pdoOut.read a := by
  unfold State.profilerOutputs
  split at ha <;> simp only [List.forall_mem_cons, List.not_mem_nil, false_implies] at ha
  next hm =>
    obtain ⟨controlWord, targetPosition, targetVelocity, -⟩ := ha
    rw [if_pos hm, State.read_writeOut_outside _ _ _ _ controlWord, State.positionOutput,
      State.read_writeOut_outside _ _ _ _ targetVelocity,
      State.read_writeOut_outside _ _ _ _ targetPosition]
  next hm =>
    rw [if_neg hm, State.read_writeOut_outside _ _ _ _ ha.1]

/-- Settles O30: the step is the update of R111 and R114, whose fields and frame are said above and
under Laws. -/
theorem enabledOutputs : Obligations.EnabledOutputs := by
  intro s pick hp
  refine ⟨_, coreStep_outputs hp pick, ?_, s.profilerOutputs_controlWord, fun hm => ?_,
    s.profilerOutputs_outside⟩
  · rw [State.profilerOutputs_eq]
  · obtain ⟨position, velocity⟩ := State.profilerOutputs_position hm
    refine ⟨?_, velocity⟩
    calc (BitVec.ofNat 32 (s.profilerOutputs.readOut .targetPosition)).toInt
        = (BitVec.ofInt 32 s.counts).toInt := by
          rw [position, BitVec.ofNat_toNat, BitVec.setWidth_eq]
      _ = s.counts := toInt_ofInt_sat32 _

end Sys2Proof.Machine
end

section
/-! PROOFS. The only changes of `motion_state` (41_motion_profiler.md R115, first row; 10_state.md R13), by
the move that makes them. -/

namespace Sys2Proof.Machine

variable {s t u : State}

/-- What a step may do to `motion_state`: keep it, follow the profile (four ways), adopt a pending
command, or come to rest with the drive not enabled (R115). -/
def MotionChange (s t : State) : Prop :=
  t.motionState = s.motionState ∨
    (s.motionState = .accelerating ∧ t.motionState = .cruising) ∨
    (s.motionState = .accelerating ∧ t.motionState = .decelerating) ∨
    (s.motionState = .cruising ∧ t.motionState = .decelerating) ∨
    (s.motionState = .decelerating ∧ t.motionState = .idle) ∨
    (t.motionState = .accelerating ∧ s.cmdPending = true ∧ t.cmdPending = false ∧ t.ack = !s.ack) ∨
    (t.motionState = .idle ∧ t.driveOp = false)

theorem MotionChange.kept (h : t.motionState = s.motionState) : MotionChange s t := .inl h

theorem MotionChange.adopted (hm : t.motionState = .accelerating) (hs : s.cmdPending = true)
    (ht : t.cmdPending = false) (ha : t.ack = !s.ack) : MotionChange s t :=
  .inr (.inr (.inr (.inr (.inr (.inl ⟨hm, hs, ht, ha⟩)))))

theorem MotionChange.disabled (hm : t.motionState = .idle) (hd : t.driveOp = false) :
    MotionChange s t :=
  .inr (.inr (.inr (.inr (.inr (.inr ⟨hm, hd⟩)))))

/-- The operation `motion_state` selects follows the profile (R106 to R109). -/
theorem exec_motion_motionChange (hu : exec s.motionState.instr s = .next u) : MotionChange s u := by
  cases hm : s.motionState <;> rw [hm] at hu <;> simp only [MotionState.instr] at hu
  case idle => injection hu with hu; subst hu; exact .kept rfl
  case accelerating =>
    obtain ⟨-, rfl⟩ | ⟨-, -, rfl⟩ | ⟨-, -, rfl⟩ := exec_mpAcc_cases hu
    · exact .inr (.inr (.inl ⟨hm, rfl⟩))
    · exact .inr (.inl ⟨hm, rfl⟩)
    · exact .kept rfl
  case cruising =>
    obtain ⟨-, rfl⟩ | ⟨-, rfl⟩ := exec_mpCru_cases hu
    · exact .inr (.inr (.inr (.inl ⟨hm, rfl⟩)))
    · exact .kept rfl
  case decelerating =>
    rw [exec_mpDec] at hu
    injection hu with hu; subst hu
    cases ha : s.arrived with
    | true => rw [State.mpDec_of_arrived ha]; exact .inr (.inr (.inr (.inr (.inl ⟨hm, rfl⟩))))
    | false => rw [State.mpDec_of_not_arrived ha]; exact .kept rfl

/-- The Drive State Machine forgets the move when it disables the drive, and else leaves it alone (40
R86, R88). -/
theorem exec_drive_motionChange {d : DriveState} (hu : exec d.instr s = .next u) : MotionChange s u := by
  cases hcw : d.controlWord with
  | some cw =>
    rw [exec_drive_notEnabled hcw] at hu
    injection hu with hu; subst hu
    rw [State.notEnabled_eq]
    cases hd : s.driveOp with
    | true => exact .disabled (if_pos hd) rfl
    | false => exact .kept (if_neg (by simp [hd]))
  | none =>
    obtain rfl := controlWord_eq_none_iff.mp hcw
    cases hd : s.driveOp with
    | true => cases (exec_dsOpen_enabled hd).symm.trans hu; exact .kept rfl
    | false => cases (exec_dsOpen_rising hd).symm.trans hu; exact .kept rfl

theorem CoreMove.motionChange (hm : CoreMove s t) : MotionChange s t := by
  cases hm with
  | drive u _ hu => exact (exec_drive_motionChange hu :)
  | adopt u _ _ hc hu => injection hu with hu; subst hu; exact .adopted rfl hc rfl rfl
  | motion u _ hu => exact (exec_motion_motionChange hu :)
  | idle => exact .kept rfl
  | exchange => rw [State.exchange_frame]; exact .kept rfl
  | monitor u _ hu => rw [(exec_bus_frame hu).1]; exact .kept rfl
  | velocity u _ hu =>
    injection hu with hu; subst hu
    rw [State.adoptVelocity_eq]
    exact .kept rfl
  | outputs => rw [State.profilerOutputs_eq]; exact .kept rfl
  | publish => rw [State.storeSnap_eq]; exact .kept rfl
  | published => exact .kept rfl
  | stopCheck => rw [State.stopCheck_frame]; exact .kept rfl

/-- The host owns none of it (44_host_channel.md R182): only the core changes `motion_state`. -/
theorem Move.motionChange (hm : Move s t) : MotionChange s t := by
  cases hm with
  | core _ hc => exact hc.motionChange
  | host _ hh => rw [hh.frame]; exact .kept rfl
  | start _ hs ht => rw [(hcStart_frame hs ht).2]; exact .kept rfl
  | time => exact .kept rfl
  | tick => rw [State.beginTick, State.setWake_frame]; exact .kept rfl

/-- Settles O32: a reset comes to rest with the drive not enabled, and a move that does not keep
`motion_state` changes it in one of the six ways. -/
theorem motionStateTransitions : Obligations.MotionStateTransitions := by
  intro s t hstep hne
  obtain ⟨rest, -, rfl⟩ | ⟨rest, hm⟩ := step_move hstep
  · exact (MotionChange.disabled rfl rfl : MotionChange s _).resolve_left hne
  · exact hm.motionChange.resolve_left hne

end Sys2Proof.Machine
end

section
/-! PROOFS. The Cyclic Scheduler's own steps (42_cyclic_scheduler.md): the gate, the exchange with its
working-counter check, the stop check; and the operation a step runs (30_encoding.md R60). -/

namespace Sys2Proof.Machine

variable {s u : State} {inp : TickInput} {rest : List Stimulus}

/-! ### The gate (R142, R145) -/

theorem State.gateOpen_iff :
    s.gateOpen = true ↔ s.runState = .running ∧ s.nextWake.toNat ≤ s.now.toNat := by
  simp [State.gateOpen]

/-- With the gate open a tick stimulus begins the tick (R142). -/
theorem step_tick_open (hp : s.phase = .idle) (hi : s.inputs = .tick inp :: rest)
    (hg : s.runState = .running ∧ s.nextWake.toNat ≤ s.now.toNat) :
    step s = .next ({ s with inputs := rest }.beginTick inp) :=
  (step_of_acts hi (.inl hp)).trans (if_pos (State.gateOpen_iff.mpr hg))

/-- With the gate closed a tick stimulus is used up and nothing else happens (R142). -/
theorem step_tick_closed (hp : s.phase = .idle) (hi : s.inputs = .tick inp :: rest)
    (hg : ¬ (s.runState = .running ∧ s.nextWake.toNat ≤ s.now.toNat)) :
    step s = .next { s with inputs := rest } :=
  (step_of_acts hi (.inl hp)).trans (if_neg fun h => hg (State.gateOpen_iff.mp h))

/-- Phase 0 writes the wake time, the count of free values, the answers taken up and the point of the
tick only (R142, R145). -/
theorem State.beginTick_frame (inp : TickInput) (s : State) :
    s.beginTick inp =
      { s with
        tickIn := inp, phase := .exchange, nextWake := (s.beginTick inp).nextWake,
        freeCount := (s.beginTick inp).freeCount } := by
  rw [State.beginTick, State.setWake_frame]

/-- Phase 0 advances the wake time by one period from its previous value, "not now + period" (R145). -/
theorem State.beginTick_nextWake (inp : TickInput) (h : s.nextWake.toNat + s.periodNs < 2 ^ 64) :
    (s.beginTick inp).nextWake.toNat = s.nextWake.toNat + s.periodNs ∧
      (s.beginTick inp).freeCount = s.freeCount := by
  rw [State.beginTick, State.setWake, if_pos h]
  exact ⟨Nat.mod_eq_of_lt h, rfl⟩

/-- Settles O47: by the gate; an open one begins the tick, which advances `next_wake`. -/
theorem gateOpensATickOrNothing : Obligations.GateOpensATickOrNothing := by
  intro s inp rest hp hi
  refine ⟨step_tick_closed hp hi, fun hrun hwake => ?_⟩
  exact ⟨_, step_tick_open hp hi ⟨hrun, hwake⟩, State.beginTick_frame inp _,
    State.beginTick_nextWake (s := { s with inputs := rest }) inp⟩

/-! ### The exchange and the working-counter check (R143, R144) -/

theorem State.wkcShort_iff :
    s.wkcShort = true ↔ s.busState = .operational ∧ s.tickIn.wkc.toInt < s.expectedWkc.toInt := by
  simp [State.wkcShort]

/-- Phase 1 without a shortfall sends and receives, nothing else (R143). -/
theorem State.exchange_of_not_short (h : s.wkcShort = false) :
    s.exchange.wkcCheck =
      { s with
        pdoIn := s.tickIn.record.toMemory,
        trace := .sent (s.pdoOut.bytes outSize) :: s.trace } :=
  if_neg (Bool.eq_false_iff.mp h)

/-- A shortfall is counted as well, with saturation, and raised (R144). -/
theorem State.exchange_of_short (h : s.wkcShort = true) :
    s.exchange.wkcCheck =
      { s with
        pdoIn := s.tickIn.record.toMemory,
        wkcErrCount := BitVec.ofNat 32 (min (s.wkcErrCount.toNat + 1) 4294967295),
        trace := .event (.softCommFault s.tickIn.wkc) :: .sent (s.pdoOut.bytes outSize) :: s.trace } :=
  if_pos h

/-- The exchange delivers every field of the collaborator's record (R143). -/
theorem State.exchange_readIn (s : State) (f : InField) :
    s.exchange.wkcCheck.readIn f = s.tickIn.record.value f := by
  have delivered : s.exchange.wkcCheck.pdoIn = s.tickIn.record.toMemory := by
    cases h : s.wkcShort with
    | true => rw [State.exchange_of_short h]
    | false => rw [State.exchange_of_not_short h]
  rw [State.readIn, delivered, InRecord.loadLE_toMemory]

/-- Settles O48: phase 1 with and without a shortfall, and each field of the record delivered. -/
theorem exchangeSendsReceivesAndChecks : Obligations.ExchangeSendsReceivesAndChecks := by
  intro s pick hp
  have word {n : Nat} {x : BitVec n} {f : InField} (h : s.tickIn.record.value f = x.toNat) :
      BitVec.ofNat n (s.exchange.wkcCheck.readIn f) = x := by
    rw [State.exchange_readIn, h, BitVec.ofNat_toNat, BitVec.setWidth_eq]
  refine ⟨_, coreStep_exchange hp pick, ?_, word rfl, word rfl, word rfl, s.exchange_readIn _,
    s.exchange_readIn _, s.exchange_readIn _, s.exchange_readIn _, s.exchange_readIn _⟩
  by_cases short : s.busState = .operational ∧ s.tickIn.wkc.toInt < s.expectedWkc.toInt
  · rw [State.exchange_of_short (State.wkcShort_iff.mpr short)]
    simp only [if_pos short]
    exact ⟨rfl, Nat.mod_eq_of_lt (by omega)⟩
  · rw [State.exchange_of_not_short (Bool.eq_false_iff.mpr fun h => short (State.wkcShort_iff.mp h))]
    simp only [if_neg short, and_true]
    rfl

/-! ### The stop check (R146) -/

/-- Settles O49: by the stop check's two cases. -/
theorem stopCheckStopsTheLoop : Obligations.StopCheckStopsTheLoop := by
  intro s pick hp
  rw [coreStep_stopCheck hp]
  obtain ⟨h, e⟩ | ⟨h, e⟩ := s.stopCheck_cases <;> rw [e]
  · exact congrArg Host.Outcome.next (if_pos h).symm
  · exact congrArg Host.Outcome.next (if_neg (Bool.eq_false_iff.mp h)).symm

/-! ### The operation a step runs -/

variable {f : Format} {w : Word} {i : Instr}

/-- Between ticks the core decodes no word (R142). -/
theorem State.phase_ne_idle_of_selector (hsel : s.selector = some (f, w)) : s.phase ≠ .idle := by
  intro hp
  simp [State.selector, hp] at hsel

/-- The core's step runs the operation its selector word decodes to (30_encoding.md R60). -/
theorem coreStep_of_selector (hsel : s.selector = some (f, w)) (hdec : decode f w = .ok i)
    (pick : Option SnapReg) : coreStep pick s = runOp i s := by
  simp only [coreStep, State.selectOp, hsel, hdec]

theorem runOp_of_exec (hu : exec i s = .next u) :
    runOp i s = .next { u with phase := nextPhase i s.phase u } := by
  rw [runOp, hu]

/-- A `CTRL` write is the operation its word decodes to (44_host_channel.md R170). -/
theorem access_ctrl (hdec : decode .hc w = .ok i) (s : State) : access (.write 0 w) s = exec i s := by
  have selected : access (.write 0 w) s = doorbell w s := rfl
  rw [selected, doorbell, hdec]

/-- Settles O53: whose turn it is, and then the operation that step selects. -/
theorem stepRunsTheDecodedOperation : Obligations.StepRunsTheDecodedOperation := by
  refine ⟨?_, ?_, ?_, ?_⟩
  · intro s u f w i hsel hdec hu hi
    have turn : step s = coreStep none s := by
      obtain hi | ⟨x, rest, hi, hw⟩ := hi
      · exact step_of_no_stimulus hi
      · exact step_of_waits hi (State.phase_ne_idle_of_selector hsel) hw
    rw [turn, coreStep_of_selector hsel hdec, runOp_of_exec hu]
  · intro s u f w i pick rest hsel hdec hi hu
    have turn : step s = coreStep pick { s with inputs := rest } := step_of_acts hi (.inr rfl)
    rw [turn, coreStep_of_selector (s := { s with inputs := rest }) hsel hdec, runOp_of_exec hu]
  · intro s w i rest hp hi hdec
    exact (step_of_acts hi (.inl hp)).trans (access_ctrl hdec _)
  · intro s hp hi
    refine ⟨fun hm hc u hu => ?_, fun hm u hu => ?_⟩
    · rw [step_of_no_stimulus hi, coreStep_profiler_adopt hp hm hc, runOp_of_exec hu, hp]
      rfl
    · rw [step_of_no_stimulus hi, coreStep_profiler_velocity hp hm, runOp_of_exec hu, hp]
      rfl

end Sys2Proof.Machine
end

section
/-! PROOFS. Where a tick stands (`phase`) is the model's own field (log 2): no operation and no phase of
42_cyclic_scheduler.md R142 computes with it, so each commutes with setting it. -/

namespace Sys2Proof.Machine

variable {s u : State} {i : Instr}

/-- `s` with its tick at point `p`. -/
def State.inPhase (p : Phase) (s : State) : State := { s with phase := p }

/-! ### The shared procedures -/

theorem State.writeOut_inPhase (f : OutField) (v : Nat) (p : Phase) (s : State) :
    (s.inPhase p).writeOut f v = (s.writeOut f v).inPhase p := rfl

theorem State.setFault_inPhase (b : Bool) (p : Phase) (s : State) :
    (s.inPhase p).setFault b = (s.setFault b).inPhase p := rfl

theorem State.notEnabled_inPhase (cw : Half) (p : Phase) (s : State) :
    (s.inPhase p).notEnabled cw = (s.notEnabled cw).inPhase p := by
  rw [State.notEnabled_eq, State.notEnabled_eq]; rfl

theorem State.adoptVelocity_inPhase (p : Phase) (s : State) :
    (s.inPhase p).adoptVelocity = s.adoptVelocity.inPhase p := by
  rw [State.adoptVelocity_eq, State.adoptVelocity_eq]; rfl

theorem State.setWake_inPhase (base : Dword) (p : Phase) (s : State) :
    (s.inPhase p).setWake base = (s.setWake base).inPhase p := by
  rw [State.setWake, State.setWake, apply_ite (State.inPhase p)]; rfl

theorem State.submitMove_inPhase (k : PendKind) (p : Phase) (s : State) :
    (s.inPhase p).submitMove k = (s.submitMove k).inPhase p := by
  simp only [State.submitMove, apply_ite (State.inPhase p)]; rfl

theorem State.profilerOutputs_inPhase (p : Phase) (s : State) :
    (s.inPhase p).profilerOutputs = s.profilerOutputs.inPhase p := by
  have position : (if s.mode = s.params.modePos then (s.inPhase p).positionOutput else s.inPhase p) =
      (if s.mode = s.params.modePos then s.positionOutput else s).inPhase p := by
    rw [apply_ite (State.inPhase p)]; rfl
  exact congrArg (fun t : State => t.writeOut .controlWord t.enabledWord.toNat) position

theorem State.storeSnap_inPhase (r : SnapReg) (p : Phase) (s : State) :
    (s.inPhase p).storeSnap r = (s.storeSnap r).inPhase p := by
  cases r <;> rfl

theorem State.stopCheck_inPhase (p : Phase) (s : State) :
    (s.inPhase p).stopCheck = s.stopCheck.inPhase p := by
  rw [State.stopCheck, State.stopCheck, apply_ite (State.inPhase p)]; rfl

/-! ### Outcomes in sequence -/

theorem andThen_ite {c : Prop} [Decidable c] (x y : Host.Outcome State Fault Refusal)
    (f : State → Host.Outcome State Fault Refusal) :
    andThen (if c then x else y) f = if c then andThen x f else andThen y f :=
  apply_ite (andThen · f) c x y

theorem andThen_assoc (r : Host.Outcome State Fault Refusal)
    (f g : State → Host.Outcome State Fault Refusal) :
    andThen (andThen r f) g = andThen r fun t => andThen (f t) g := by
  cases r <;> rfl

/-! ### The operations -/

/-- No operation depends on where the tick stands: the branches it takes are the same, and each branch
leaves the phase alone. -/
theorem exec_inPhase_eq (i : Instr) (p : Phase) (s : State) :
    exec i (s.inPhase p) = andThen (exec i s) fun u => .next (u.inPhase p) := by
  cases i with
  | mpIdle | mpOrigin | mpAbort | mpAdopt | bsOp | bsErr | hcStop => rfl
  | dsFault => simp only [exec, execDsFault, State.setFault_inPhase, State.notEnabled_inPhase]; rfl
  | dsSod | dsRtso | dsSon | dsNrdy =>
    exact congrArg Host.Outcome.next (State.notEnabled_inPhase _ p (s.setFault false))
  | dsOpen => simp only [exec, execDsOpen, apply_ite Host.Outcome.next, andThen_ite]; rfl
  | mpVel => simp only [exec, execMpVel, State.adoptVelocity_inPhase]; rfl
  | mpAcc | mpCru | mpDec | bsWait | bsReq | hcSetVel =>
    simp only [exec, execMpAcc, execMpCru, execMpDec, execBsWait, execBsReq, execHcSetVel, andThen_ite]
    rfl
  | hcStart =>
    simp only [exec, execHcStart, andThen_ite]
    rw [State.writeOut_inPhase, State.setWake_inPhase]; rfl
  | hcMoveAbs => exact congrArg Host.Outcome.next (State.submitMove_inPhase .absolute p s)
  | hcMoveRel => exact congrArg Host.Outcome.next (State.submitMove_inPhase .relative p s)

/-- An operation run at any point of a tick gives its own next state, and the tick goes on. -/
theorem runOp_inPhase (hu : exec i s = .next u) (p : Phase) :
    runOp i (s.inPhase p) = .next (u.inPhase (nextPhase i p u)) := by
  have moved : exec i (s.inPhase p) = .next (u.inPhase p) := by rw [exec_inPhase_eq, hu]; rfl
  have goesOn : nextPhase i p (u.inPhase p) = nextPhase i p u := by cases p <;> rfl
  rw [runOp_of_exec moved]
  exact congrArg (fun q => Host.Outcome.next (u.inPhase q)) goesOn

end Sys2Proof.Machine
end

section
/-! PROOFS. The steps of a tick are the one transition of 42_cyclic_scheduler.md R142. From each point of
a tick, last to first, the core's own steps end the tick in the state that the rest of the transition
gives (`EndsTick`); each point adds its steps to the count of the next. -/

namespace Sys2Proof.Machine

variable {s t u : State} {r : Host.Outcome State Fault Refusal} {n m : Nat}

/-- With no stimulus left, the steps from `s` end the tick, after at most `n`, in the state that `r`
answers. -/
def EndsTick (n : Nat) (s : State) (r : Host.Outcome State Fault Refusal) : Prop :=
  s.inputs = [] → ∃ k t, k ≤ n ∧ Host.Core.run core k s = .next t ∧ t.phase = .idle ∧ r = .next t

theorem EndsTick.mono (h : EndsTick n s r) (hnm : n ≤ m) : EndsTick m s r := fun hi =>
  let ⟨k, t, hk, run⟩ := h hi
  ⟨k, t, Nat.le_trans hk hnm, run⟩

theorem EndsTick.ended (hp : s.phase = .idle) : EndsTick 0 s (.next s) :=
  fun _ => ⟨0, s, Nat.le_refl 0, rfl, hp, rfl⟩

/-- A run is its first step and the run from there. -/
theorem run_succ (h : step s = .next t) (k : Nat) :
    Host.Core.run core (k + 1) s = Host.Core.run core k t := by
  have hstep : core.step s = .next t := h
  simp only [Host.Core.run, hstep]

/-- The core's step comes first; it leaves no stimulus where there was none. -/
theorem EndsTick.of_coreStep (hs : coreStep none s = .next t) (ht : EndsTick n t r) :
    EndsTick (n + 1) s r := by
  intro hi
  obtain ⟨k, e, hk, run, ends⟩ := ht ((coreStep_inputs hs).trans hi)
  exact ⟨k + 1, e, Nat.succ_le_succ hk,
    (run_succ ((step_of_no_stimulus hi).trans hs) k).trans run, ends⟩

/-- Where the core's step runs operation `i`, the rest of the tick comes after `exec i`. -/
theorem EndsTick.of_runOp {i : Instr} {p : Phase} {f : State → Host.Outcome State Fault Refusal}
    (selected : coreStep none (s.inPhase p) = runOp i (s.inPhase p))
    (rest : ∀ u, EndsTick n (u.inPhase (nextPhase i p u)) (f u)) :
    EndsTick (n + 1) (s.inPhase p) (andThen (exec i s) f) := by
  obtain ⟨u, hu⟩ := exec_completes i s
  rw [hu]
  exact .of_coreStep (selected.trans (runOp_inPhase hu p)) (rest u)

/-! ### Phases 6 and 7: publish and stop check -/

/-- Phases 6 and 7 as the one transition has them (R142, 44_host_channel.md R176). -/
def State.endTick (s : State) : State := s.publishAll.stopCheck.inPhase .idle

theorem endsTick_stopCheck (s : State) :
    EndsTick 1 (s.inPhase .stopCheck) (.next (s.stopCheck.inPhase .idle)) := by
  have last : coreStep none (s.inPhase .stopCheck) = .next (s.stopCheck.inPhase .idle) := by
    rw [coreStep_stopCheck rfl, State.stopCheck_inPhase]; rfl
  exact .of_coreStep last (.ended rfl)

/-- One store of the publish phase: with no pick it is the first register's, and the others stay. -/
theorem coreStep_store {r : SnapReg} {rest : List SnapReg} (hr : r ∉ rest) (s : State) :
    coreStep none (s.inPhase (.publish (r :: rest))) =
      .next ((s.storeSnap r).inPhase (if rest = [] then .stopCheck else .publish rest)) := by
  have left : (r :: rest).filter (fun x => x != r) = rest := by
    rw [List.filter_cons_of_neg (by simp)]
    exact List.filter_eq_self.mpr fun x hx => bne_iff_ne.mpr fun h => hr (h ▸ hx)
  rw [coreStep_publish rfl, nextSnap, left, State.storeSnap_inPhase]; rfl

/-- The stores of phase 6 in the order of the list, then phase 7. -/
theorem endsTick_publish {r : SnapReg} {rest : List SnapReg} (distinct : (r :: rest).Nodup) (s : State) :
    EndsTick (rest.length + 2) (s.inPhase (.publish (r :: rest)))
      (.next (((r :: rest).foldl (fun t x => t.storeSnap x) s).stopCheck.inPhase .idle)) := by
  induction rest generalizing r s with
  | nil => exact .of_coreStep (coreStep_store (by simp) s) (endsTick_stopCheck _)
  | cons x rest ih =>
    obtain ⟨hr, hrest⟩ := List.nodup_cons.mp distinct
    exact .of_coreStep (coreStep_store hr s) (ih hrest (s.storeSnap r))

theorem endsTick_publishAll (s : State) :
    EndsTick 9 (s.inPhase (.publish SnapReg.all)) (.next s.endTick) :=
  endsTick_publish (by decide) s

/-! ### Phases 3 and 4: the drive and the profiler -/

theorem endsTick_outputs (s : State) :
    EndsTick 10 (s.inPhase .outputs) (.next s.profilerOutputs.endTick) := by
  refine .of_coreStep ?_ (endsTick_publishAll s.profilerOutputs)
  rw [coreStep_outputs rfl, State.profilerOutputs_inPhase]; rfl

theorem endsTick_motion (s : State) :
    EndsTick 11 (s.inPhase .motion)
      (andThen (exec s.motionState.instr s) fun t => .next t.profilerOutputs.endTick) :=
  .of_runOp (coreStep_motion rfl none) endsTick_outputs

/-- The branches of 41_motion_profiler.md R117. -/
theorem endsTick_profiler (s : State) :
    EndsTick 12 (s.inPhase .profiler) (andThen (profilerPhase s) fun t => .next t.endTick) := by
  rw [profilerPhase, andThen_assoc]
  by_cases hm : s.mode = s.params.modePos
  · rw [if_pos hm, andThen_assoc]
    cases hc : s.cmdPending with
    | true =>
      exact .of_runOp (coreStep_profiler_adopt (s := s.inPhase .profiler) rfl hm hc none) endsTick_motion
    | false =>
      refine EndsTick.mono (n := 11) (.of_runOp
        (coreStep_profiler_motion (s := s.inPhase .profiler) rfl hm hc none) fun u => ?_) (by decide)
      rw [nextPhase, if_neg (MotionState.instr_ne_mpAdopt _)]
      exact endsTick_outputs u
  · rw [if_neg hm]
    exact EndsTick.mono (n := 11) (.of_runOp
      (coreStep_profiler_velocity (s := s.inPhase .profiler) rfl hm none) endsTick_outputs) (by decide)

/-- Phase 3 and what follows it (40_drive_state_machine.md R80, 41 R100). -/
theorem endsTick_drive (hb : s.busState = .operational) :
    EndsTick 13 (s.inPhase .drive) (andThen (drivePhase s) fun t => .next t.endTick) := by
  rw [drivePhase, if_pos hb, andThen_assoc]
  refine .of_runOp (coreStep_drive rfl none) fun u => ?_
  rw [nextPhase]
  cases u.driveOp with
  | true => exact endsTick_profiler u
  | false => exact (endsTick_publishAll u).mono (by decide)

/-! ### Phases 0 to 2, and the whole tick -/

/-- Phase 2 and what follows it (43_bus_state_monitor.md R161). -/
theorem endsTick_monitor (s : State) :
    EndsTick 14 (s.inPhase .monitor)
      (andThen (exec s.busState.instr s) fun b => andThen (drivePhase b) fun c => .next c.endTick) := by
  refine .of_runOp (coreStep_monitor rfl none) fun u => ?_
  rw [nextPhase]
  by_cases hb : u.busState = .operational
  · rw [if_pos hb]; exact endsTick_drive hb
  · rw [if_neg hb, drivePhase, if_neg hb]
    exact (endsTick_publishAll u).mono (by decide)

theorem endsTick_beginTick (inp : TickInput) (s : State) :
    EndsTick 15 (s.beginTick inp) (wholeTick inp s) :=
  .of_coreStep (coreStep_exchange rfl none) (endsTick_monitor (s.beginTick inp).exchange.wkcCheck)

/-- Settles O50: one step begins the tick, and from there the core's steps end it in at most 15. -/
theorem stepsOfATickAreOneTransition : Obligations.StepsOfATickAreOneTransition := by
  intro s inp hp hrun hwake hi
  obtain ⟨k, t, hk, run, idle, whole⟩ :=
    endsTick_beginTick inp { s with inputs := [] } (congrArg State.inputs (State.beginTick_frame inp _))
  exact ⟨k + 1, t, Nat.succ_le_succ hk,
    (run_succ (step_tick_open hp hi ⟨hrun, hwake⟩) k).trans run, idle, whole⟩

end Sys2Proof.Machine
end

section
/-! PROOFS. The Bus State Monitor (43_bus_state_monitor.md): its four operations, and `BusMove`, what a
step that is no reset does to `bus_state`, to the loop's stop and on the request port. The graph of
`bus_state` and the count of requests are read off it. -/

namespace Sys2Proof.Machine

variable {s t u : State}

/-! ### The operations (R162 to R165) -/

/-- Settles O33: by the two inputs BS.WAIT samples, the error first. -/
theorem bsWaitRequestsOrFails : Obligations.BsWaitRequestsOrFails := by
  intro s
  by_cases err : s.tickIn.busIsErr = true
  · rw [if_pos err]; exact if_pos err
  · rw [if_neg err, apply_ite Host.Outcome.next]; exact if_neg err

/-- Settles O34: by the two inputs BS.REQ samples, the error first. -/
theorem bsReqPollsOrFails : Obligations.BsReqPollsOrFails := by
  intro s
  by_cases err : s.tickIn.busIsErr = true
  · rw [if_pos err]; exact if_pos err
  · rw [if_neg err, apply_ite Host.Outcome.next]; exact if_neg err

/-- Settles O35: both have empty pseudocode. -/
theorem bsOpAndBsErrChangeNothing : Obligations.BsOpAndBsErrChangeNothing := fun _ => ⟨rfl, rfl⟩

/-! ### Requests on the collaborator's port (R160) -/

theorem State.requests_of_trace (ht : t.trace = s.trace) (y : BusTarget) :
    t.requests y = s.requests y := by
  rw [State.requests, ht, State.requests]

/-- A request just emitted is counted for its own target. -/
theorem State.requests_of_request {x : BusTarget} (ht : t.trace = .request x :: s.trace)
    (y : BusTarget) : t.requests y = s.requests y + if x = y then 1 else 0 := by
  simp [State.requests, ht, List.count_cons]

/-- What is put out besides requests is not counted. -/
theorem State.requests_of_output {o : Output} (ho : ∀ x, o ≠ .request x) (ht : t.trace = o :: s.trace)
    (y : BusTarget) : t.requests y = s.requests y := by
  rw [State.requests, ht, List.count_cons_of_ne (ho y), State.requests]

theorem State.requests_of_event {e : Event} (ht : t.trace = .event e :: s.trace) (y : BusTarget) :
    t.requests y = s.requests y := State.requests_of_output (fun _ => Output.noConfusion) ht y

/-! ### What a step does to the bus -/

/-- A step that is no reset, as the bus sees it: at most one change of `bus_state` or of the loop's
stop, with the request that goes with it (R162, R163, R166; 42_cyclic_scheduler.md R146). -/
inductive BusMove (s t : State) : Prop where
  /-- `bus_state` stays, the loop neither stops nor leaves Stopped, and nothing is requested -/
  | kept : t.busState = s.busState → (t.runState = .stopped ↔ s.runState = .stopped) →
      (∀ y, t.requests y = s.requests y) → BusMove s t
  /-- BS.WAIT sees the clocks in sync and requests Operational (R162) -/
  | synced : s.busState = .waitingForClockSync → t.busState = .requestingOperational →
      t.runState = s.runState → t.trace = .request .op :: s.trace → BusMove s t
  /-- BS.REQ sees the bus Operational (R163) -/
  | operational : s.busState = .requestingOperational → t.busState = .operational →
      t.runState = s.runState → t.trace = s.trace → BusMove s t
  /-- BS.WAIT or BS.REQ sees an error, which shuts down (R162, R163) -/
  | failed : s.busState = .waitingForClockSync ∨ s.busState = .requestingOperational →
      t.busState = .error → t.shutdown = true → t.runState = s.runState →
      t.trace = .event .busError :: s.trace → BusMove s t
  /-- the loop stops, at the end of a tick or at START, and requests INIT (42 R146, 44 R171) -/
  | stopped : t.busState = s.busState → s.phase ≠ .idle ∨ s.runState = .halted →
      t.runState = .stopped → t.trace = .request .init :: s.trace → BusMove s t

namespace BusMove

/-- Where the tick goes on is nothing the bus sees. -/
theorem withPhase (h : BusMove s t) (p : Phase) : BusMove s { t with phase := p } := by
  cases h with
  | kept hb hr hq => exact .kept hb hr hq
  | synced hb hb' hr ht => exact .synced hb hb' hr ht
  | operational hb hb' hr ht => exact .operational hb hb' hr ht
  | failed hb hb' hs hr ht => exact .failed hb hb' hs hr ht
  | stopped hb hs hr ht => exact .stopped hb hs hr ht

theorem refl (s : State) : BusMove s s := .kept rfl Iff.rfl fun _ => rfl

end BusMove

/-! ### The core -/

/-- The operation `bus_state` selects (R162 to R165). -/
theorem exec_bus_busMove (hu : exec s.busState.instr s = .next u) : BusMove s u := by
  cases hb : s.busState <;> rw [hb] at hu
  case waitingForClockSync =>
    cases (bsWaitRequestsOrFails s).symm.trans hu
    split
    · exact .failed (.inl hb) rfl rfl rfl rfl
    · split
      · exact .synced hb rfl rfl rfl
      · exact .refl s
  case requestingOperational =>
    cases (bsReqPollsOrFails s).symm.trans hu
    split
    · exact .failed (.inr hb) rfl rfl rfl rfl
    · split
      · exact .operational hb rfl rfl rfl
      · exact .refl s
  case operational => cases (bsOpAndBsErrChangeNothing s).1.symm.trans hu; exact .refl s
  case error => cases (bsOpAndBsErrChangeNothing s).2.symm.trans hu; exact .refl s

/-- The Drive State Machine requests nothing: at most it raises DriveFault (40 R82 to R87). -/
theorem exec_drive_busMove {d : DriveState} (hu : exec d.instr s = .next u) : BusMove s u := by
  cases hcw : d.controlWord with
  | some cw =>
    cases (exec_drive_notEnabled hcw s).symm.trans hu
    rw [State.notEnabled_eq]
    refine .kept rfl Iff.rfl ?_
    by_cases hf : d = .fault
    · exact State.requests_of_event (if_pos hf)
    · exact State.requests_of_trace (if_neg hf)
  | none =>
    obtain rfl := controlWord_eq_none_iff.mp hcw
    cases hd : s.driveOp with
    | true => cases (exec_dsOpen_enabled hd).symm.trans hu; exact .kept rfl Iff.rfl fun _ => rfl
    | false => cases (exec_dsOpen_rising hd).symm.trans hu; exact .kept rfl Iff.rfl fun _ => rfl

/-- The exchange puts out the record sent and at most SoftCommFault (42 R143, R144). -/
theorem State.exchange_requests (s : State) (y : BusTarget) :
    s.exchange.wkcCheck.requests y = s.requests y := by
  have sent : s.exchange.requests y = s.requests y :=
    State.requests_of_output (fun _ => Output.noConfusion) rfl y
  obtain ⟨-, e⟩ | ⟨-, e⟩ := s.exchange.wkcCheck_cases <;> rw [e]
  · exact (State.requests_of_event rfl y).trans sent
  · exact sent

theorem CoreMove.busMove (hm : CoreMove s t) : BusMove s t := by
  cases hm with
  | monitor u _ hu => exact (exec_bus_busMove hu).withPhase _
  | drive u _ hu => exact (exec_drive_busMove hu).withPhase _
  | exchange =>
    have quiet := s.exchange_requests
    rw [State.exchange_frame] at quiet ⊢
    exact .kept rfl Iff.rfl quiet
  | stopCheck hp =>
    obtain ⟨-, e⟩ | ⟨-, e⟩ := s.stopCheck_cases <;> rw [e]
    · exact .stopped rfl (.inl (by simp [hp])) rfl rfl
    · exact .kept rfl Iff.rfl fun _ => rfl
  | idle => exact .refl s
  | adopt u _ _ _ hu => injection hu with hu; subst hu; exact .kept rfl Iff.rfl fun _ => rfl
  | motion u _ hu => rw [exec_motion_frame hu]; exact .kept rfl Iff.rfl fun _ => rfl
  | velocity u _ hu =>
    injection hu with hu; subst hu
    rw [State.adoptVelocity_eq]
    exact .kept rfl Iff.rfl fun _ => rfl
  | outputs => rw [State.profilerOutputs_eq]; exact .kept rfl Iff.rfl fun _ => rfl
  | publish => rw [State.storeSnap_eq]; exact .kept rfl Iff.rfl fun _ => rfl
  | published => exact .kept rfl Iff.rfl fun _ => rfl

/-! ### The host -/

/-- START is refused, stops the loop with the request for INIT, or runs it (44 R171). -/
theorem execHcStart_busMove (ht : execHcStart s = .next t) : BusMove s t := by
  obtain ⟨-, e⟩ | ⟨hr, -, -, e⟩ | ⟨hr, -, -, e⟩ := execHcStart_cases s <;> cases e.symm.trans ht
  · exact .kept rfl Iff.rfl fun _ => rfl
  · rw [State.setWake_frame]
    exact .stopped rfl (.inr hr) rfl rfl
  · rw [State.setWake_frame]
    exact .kept rfl ⟨nofun, fun hs => nomatch hr.symm.trans hs⟩ fun _ => rfl

/-- A position move requests nothing: at most it raises InvalidCommand (44 R173, R174). -/
theorem submitMove_busMove (k : PendKind) (s : State) : BusMove s (s.submitMove k) := by
  obtain ⟨-, e⟩ | ⟨-, -, e⟩ | ⟨-, -, -, e⟩ | ⟨-, -, -, e⟩ := s.submitMove_cases k <;> rw [e]
  case inr.inr.inl => exact .kept rfl Iff.rfl (State.requests_of_event rfl)
  all_goals exact .kept rfl Iff.rfl fun _ => rfl

/-- A write to `CTRL` (44 R170, R179). -/
theorem doorbell_busMove {w : Word} (ht : doorbell w s = .next t) : BusMove s t := by
  unfold doorbell at ht
  split at ht
  · rename_i i hi
    obtain rfl | rfl | rfl | rfl | rfl := decodeHc_ok hi
    · exact execHcStart_busMove ht
    · injection ht with ht; subst ht; exact .kept rfl Iff.rfl fun _ => rfl
    · injection ht with ht; subst ht; exact submitMove_busMove .absolute s
    · injection ht with ht; subst ht; exact submitMove_busMove .relative s
    · simp only [exec, execHcSetVel] at ht
      (repeat' split at ht) <;> injection ht with ht <;> subst ht <;>
        exact .kept rfl Iff.rfl fun _ => rfl
  · injection ht with ht; subst ht; exact .kept rfl Iff.rfl fun _ => rfl

/-- A host access writes no `bus_state`, and requests nothing unless START stops the loop (44 R182). -/
theorem access_busMove {a : Access} (ht : access a s = .next t) : BusMove s t := by
  cases a with
  | read n =>
    injection ht with ht; subst ht
    exact .kept rfl Iff.rfl (State.requests_of_output (fun _ => Output.noConfusion) rfl)
  | write n w =>
    simp only [access, hostWrite] at ht
    split at ht
    · exact doorbell_busMove ht
    · injection ht with ht; subst ht
      rw [State.plainWrite_eq]
      exact .kept rfl Iff.rfl fun _ => rfl
    · injection ht with ht; subst ht; exact .refl s

/-! ### Every step -/

/-- A stimulus is a reset, or the bus sees one of the moves. -/
theorem perform_busMove {x : Stimulus} (ht : perform x s = .next t) :
    (x = .reset ∧ t = s.resetNow) ∨ BusMove s t := by
  cases x with
  | reset => injection ht with ht; exact .inl ⟨rfl, ht.symm⟩
  | host a => exact .inr (access_busMove ht)
  | hostInside a => exact .inr (access_busMove ht)
  | core pick => exact .inr (coreStep_move ht).busMove
  | advance n =>
    simp only [perform, advanceTime] at ht
    split at ht <;> cases ht
    exact .inr (.kept rfl Iff.rfl fun _ => rfl)
  | tick inp =>
    simp only [perform] at ht
    split at ht <;> injection ht with ht <;> subst ht
    · rw [State.beginTick_frame]
      exact .inr (.kept rfl Iff.rfl fun _ => rfl)
    · exact .inr (.refl s)

/-- Every step is the reset that stands next in the list, or the bus sees one of the moves. -/
theorem step_busMove (ht : step s = .next t) :
    (∃ rest, s.inputs = .reset :: rest ∧ t = { s with inputs := rest }.resetNow) ∨
      ∃ rest, BusMove { s with inputs := rest } t := by
  obtain ⟨hc, -⟩ | ⟨x, rest, hx, -, hx'⟩ := step_cases ht
  · exact .inr ⟨s.inputs, (coreStep_move hc).busMove⟩
  · obtain ⟨rfl, ht⟩ | hm := perform_busMove hx'
    · exact .inl ⟨rest, hx, ht⟩
    · exact .inr ⟨rest, hm⟩

/-- Settles O37: the edges are those of the moves that change `bus_state`, and a reset's. -/
theorem busStateGraph : Obligations.BusStateGraph := by
  intro s t hstep hne
  obtain ⟨rest, hx, rfl⟩ | ⟨rest, hm⟩ := step_busMove hstep
  · exact .inr (.inr (.inr (.inr ⟨rfl, rest, hx⟩)))
  · cases hm with
    | kept hb | stopped hb => exact absurd hb hne
    | synced hb hb' => exact .inl ⟨hb, hb'⟩
    | operational hb hb' => exact .inr (.inr (.inl ⟨hb, hb'⟩))
    | failed hb hb' hs =>
      obtain hb | hb := hb
      · exact .inr (.inl ⟨hb, hb', hs⟩)
      · exact .inr (.inr (.inr (.inl ⟨hb, hb', hs⟩)))

/-! ### Requests, once each (R166 item 1, 70_reset_and_hazards.md R213) -/

/-- After a reset nothing has been requested (10_state.md R31). -/
theorem State.requestsOnce_resetNow (s : State) : s.resetNow.RequestsOnce :=
  { opAtMostOnce := Nat.zero_le 1, opNotWhileWaiting := fun _ => rfl, initAtStop := rfl }

/-- The loop stops only while it has not stopped: a tick runs only while Running (42 R142). -/
theorem State.Inv.not_stopped (h : s.Inv) (hs : s.phase ≠ .idle ∨ s.runState = .halted) :
    s.runState ≠ .stopped := by
  obtain hp | hr := hs
  · simp [h.tickRuns hp]
  · simp [hr]

/-- A move that keeps both the requests and the stop keeps their agreement. -/
theorem State.RequestsOnce.of_same (h : s.RequestsOnce) (hq : ∀ y, t.requests y = s.requests y)
    (hr : t.runState = .stopped ↔ s.runState = .stopped)
    (hb : t.busState = .waitingForClockSync → s.busState = .waitingForClockSync) :
    t.RequestsOnce where
  opAtMostOnce := hq .op ▸ h.opAtMostOnce
  opNotWhileWaiting hw := (hq .op).trans (h.opNotWhileWaiting (hb hw))
  initAtStop := by rw [hq, h.initAtStop]; simp only [hr]

/-- Operational is requested only on leaving WaitingForClockSync, and INIT only on entering Stopped. -/
theorem State.RequestsOnce.busMove (h : s.RequestsOnce) (hi : s.Inv) (hm : BusMove s t) :
    t.RequestsOnce := by
  cases hm with
  | kept hb hr hq => exact h.of_same hq hr (hb ▸ id)
  | operational _ hb' hr ht =>
    exact h.of_same (State.requests_of_trace ht) (hr ▸ Iff.rfl) (by simp [hb'])
  | failed _ hb' _ hr ht =>
    exact h.of_same (State.requests_of_event ht) (hr ▸ Iff.rfl) (by simp [hb'])
  | synced hb hb' hr ht =>
    have hq := State.requests_of_request ht
    have none_yet := h.opNotWhileWaiting hb
    exact
      { opAtMostOnce := by simp [hq, none_yet]
        opNotWhileWaiting := by simp [hb']
        initAtStop := by simp [hq, h.initAtStop, hr] }
  | stopped hb hs hr ht =>
    have hq := State.requests_of_request ht
    have running := hi.not_stopped hs
    exact
      { opAtMostOnce := by simpa [hq] using h.opAtMostOnce
        opNotWhileWaiting := fun hw => by simpa [hq] using h.opNotWhileWaiting (hb ▸ hw)
        initAtStop := by simp [hq, h.initAtStop, hr, running] }

/-- Settles O38: a reset starts the count anew, and every move keeps it. -/
theorem everyStepKeepsRequestsOnce : Obligations.EveryStepKeepsRequestsOnce := by
  intro s t hi h hstep
  obtain ⟨rest, -, rfl⟩ | ⟨rest, hm⟩ := step_busMove hstep
  · exact State.requestsOnce_resetNow _
  · have counted : { s with inputs := rest }.RequestsOnce := { h with }
    exact counted.busMove (hi.withInputs rest) hm

end Sys2Proof.Machine
end

section
/-! PROOFS. Who writes what (44_host_channel.md R182): the moves of the core leave the host's registers
alone, and the host's moves leave the core's registers and the input record alone. -/

namespace Sys2Proof.Machine

variable {s t : State}

/-! ### The core -/

/-- What the core keeps of the host's: its registers, and that no command is pending where none was. -/
structure KeepsHost (s t : State) : Prop where
  owned : SameHostOwned s t
  pending : s.cmdPending = false → t.cmdPending = false

/-- A state in which the host's registers and the pending flag are the same. -/
theorem KeepsHost.of_eq (h : SameHostOwned s t) (hc : t.cmdPending = s.cmdPending) : KeepsHost s t :=
  ⟨h, fun hp => hc.trans hp⟩

theorem SameHostOwned.refl (s : State) : SameHostOwned s s :=
  ⟨rfl, rfl, rfl, rfl, rfl, rfl, rfl, rfl, rfl, rfl, rfl⟩

/-- No step of the core writes what the host owns; an adoption takes the pending command off (R182,
41_motion_profiler.md R103, R113). -/
theorem CoreMove.keepsHost (hm : CoreMove s t) : KeepsHost s t := by
  cases hm with
  | idle => exact .of_eq (.refl s) rfl
  | exchange => rw [State.exchange_frame]; exact .of_eq (.refl s) rfl
  | monitor u _ hu => rw [(exec_bus_frame hu).1]; exact .of_eq (.refl s) rfl
  | drive u _ hu => rw [exec_drive_frame hu]; exact .of_eq (.refl s) rfl
  | adopt u _ _ _ hu => injection hu with hu; subst hu; exact ⟨.refl s, fun _ => rfl⟩
  | motion u _ hu => rw [exec_motion_frame hu]; exact .of_eq (.refl s) rfl
  | velocity u _ hu =>
    injection hu with hu; subst hu
    rw [State.adoptVelocity_eq]
    exact ⟨.refl s, fun _ => rfl⟩
  | outputs => rw [State.profilerOutputs_eq]; exact .of_eq (.refl s) rfl
  | publish => rw [State.storeSnap_eq]; exact .of_eq (.refl s) rfl
  | published => exact .of_eq (.refl s) rfl
  | stopCheck => rw [State.stopCheck_frame]; exact .of_eq (.refl s) rfl

/-! ### The host -/

theorem SameCoreOwned.refl (s : State) : SameCoreOwned s s := by
  unfold SameCoreOwned; repeat' constructor

/-- What a host access keeps of the core's: its registers and `PDO_IN`, a set `shutdown`, `run_state`
but for leaving Halted, and `PDO_OUT` once Halted is left (R182). -/
structure KeepsCore (s t : State) : Prop where
  owned : SameCoreOwned s t
  shutdown : s.shutdown = true → t.shutdown = true
  runState : t.runState ≠ s.runState → s.runState = .halted
  pdoOut : s.runState ≠ .halted → t.pdoOut = s.pdoOut

theorem HostMove.keepsCore (hm : HostMove s t) : KeepsCore s t := by
  have shutdown := hm.shutdown
  rw [hm.frame]
  exact ⟨.refl s, shutdown, fun h => absurd rfl h, fun _ => rfl⟩

/-- START that passes its checks leaves Halted, and writes `PDO_OUT` there (R171). -/
theorem hcStart_keepsCore (hs : s.Startable) (ht : exec .hcStart s = .next t) : KeepsCore s t := by
  rw [(hcStart_frame hs ht).2]
  exact ⟨.refl s, id, fun _ => hs.1, fun h => absurd hs.1 h⟩

theorem access_keepsCore {a : Access} (ht : access a s = .next t) : KeepsCore s t := by
  obtain hm | ⟨hs, he⟩ := access_move ht
  · exact hm.keepsCore
  · exact hcStart_keepsCore hs he

/-- Settles O55: the core's step is a core move; the host's access starts the loop or is a host move. -/
theorem noAgentWritesTheOthersRegisters : Obligations.NoAgentWritesTheOthersRegisters := by
  refine ⟨fun s t pick h => ?_, fun s t a h => ?_⟩
  · obtain ⟨owned, pending⟩ := (coreStep_move h).keepsHost
    exact ⟨owned, pending⟩
  · obtain ⟨owned, shutdown, runState, pdoOut⟩ := access_keepsCore h
    exact ⟨owned, shutdown, runState, pdoOut⟩

end Sys2Proof.Machine
end

section
/-! PROOFS. The numbers of the host registers (10_state.md R24 to R27), read back by `ofNumber`. -/

namespace Sys2Proof

/-- The number of a host register (10_state.md R24 to R26). -/
def HostReg.number : HostReg → Nat
  | .ctrl => 0
  | .result => 1
  | .mode => 2
  | .expectedWkc => 3
  | .cmdTarget => 4
  | .cmdVmax => 5
  | .cmdAccel => 6
  | .errcode => 7
  | .snapBusOp => 8
  | .snapDriveOp => 9
  | .snapFault => 10
  | .snapSw => 11
  | .snapCw => 12
  | .snapApos => 13
  | .snapAvel => 14
  | .snapMstate => 15
  | .shutdown => 16
  | .runState => 17
  | .wkcErrCount => 18

theorem HostReg.ofNumber_number (r : HostReg) : ofNumber r.number = some r := by
  cases r <;> rfl

theorem HostReg.ofNumber_above (k : Nat) : ofNumber (k + 19) = none :=
  List.getElem?_eq_none (Nat.le_add_left 19 k)

/-- Every number is a register's or above 18 (10_state.md R27). -/
theorem HostReg.number_cases (n : Nat) : (∃ r : HostReg, n = r.number) ∨ ∃ k, n = k + 19 := by
  by_cases h : n < 19
  · have listed : ∀ m < 19, m = ((ofNumber m).getD .ctrl).number := by decide
    exact .inl ⟨_, listed n h⟩
  · exact .inr ⟨n - 19, by omega⟩

end Sys2Proof
end

section
/-! PROOFS. The host channel's accesses (44_host_channel.md): the doorbell operations HC.*, a reserved
opcode, and the plain writes and reads by register number. -/

namespace Sys2Proof.Machine

variable {s : State} {a : Access} {rest : List Stimulus}

/-! ### HC.START and HC.STOP (R171, R172) -/

theorem State.modeLegal_iff :
    s.modeLegal = true ↔ s.mode = s.params.modePos ∨ s.mode = s.params.modeVel := by
  simp [State.modeLegal]

/-- A wake time within 64 bits is one period after its base, and draws no free value
(42_cyclic_scheduler.md R145). -/
theorem State.setWake_nextWake {base : Dword} (h : base.toNat + s.periodNs < 2 ^ 64) :
    (s.setWake base).nextWake.toNat = base.toNat + s.periodNs ∧
      (s.setWake base).freeCount = s.freeCount := by
  rw [State.setWake, if_pos h]
  exact ⟨Nat.mod_eq_of_lt h, rfl⟩

/-- START outside Halted or with an illegal `MODE` writes `RESULT` only (R171). -/
theorem exec_hcStart_refused (h : ¬ s.Startable) : exec .hcStart s = .next { s with result := 3 } := by
  obtain ⟨-, e⟩ | ⟨hr, hm, -⟩ | ⟨hr, hm, -⟩ := execHcStart_cases s
  · exact e
  · exact absurd ⟨hr, hm⟩ h
  · exact absurd ⟨hr, hm⟩ h

/-- START that passes its checks writes the mode byte and the wake time; a set `shutdown` then makes it
stop the loop instead of running it (R171). -/
theorem exec_hcStart_started (h : s.Startable) :
    exec .hcStart s =
      .next { (s.writeOut .modeOfOperation s.mode.toNat).setWake s.now with
        runState := if s.shutdown then .stopped else .running,
        trace := if s.shutdown then .request .init :: s.trace else s.trace, result := 0 } := by
  obtain ⟨hr, hm⟩ := h
  obtain ⟨hn | hn, -⟩ | ⟨-, -, hs, e⟩ | ⟨-, -, hs, e⟩ := execHcStart_cases s
  · exact absurd hr hn
  · exact nomatch hm.symm.trans hn
  all_goals
    refine Eq.trans e ?_
    rw [State.setWake_frame, hs]
    rfl

/-- Settles O39: by START's two checks; the mode byte is a field write, the wake time a wake update. -/
theorem hcStartStartsTheLoop : Obligations.HcStartStartsTheLoop := by
  refine fun s => ⟨fun refused => exec_hcStart_refused ?_, fun hr hm => ?_⟩
  · rintro ⟨hr, hm⟩
    obtain h | ⟨hpos, hvel⟩ := refused
    · exact h hr
    · exact (State.modeLegal_iff.mp hm).elim hpos hvel
  · refine ⟨_, exec_hcStart_started ⟨hr, State.modeLegal_iff.mpr hm⟩, ?_, ?_, ?_, ?_⟩
    · rw [State.setWake_frame]; rfl
    · rw [State.setWake_frame]
      exact (State.readOut_writeOut_same .modeOfOperation _ s).trans (Nat.mod_eq_of_lt s.mode.isLt)
    · intro k hk
      rw [State.setWake_frame]
      exact State.read_writeOut_outside .modeOfOperation _ s k hk
    · exact State.setWake_nextWake (s := s.writeOut .modeOfOperation s.mode.toNat)

/-- Settles O40: the operation is that update. -/
theorem hcStopSetsShutdown : Obligations.HcStopSetsShutdown := fun _ => rfl

/-! ### The submissions (R173 to R175, R180) -/

theorem validLimits_iff {v a : Word} :
    validLimits v a = true ↔
      (1 ≤ v.toInt ∧ v.toInt ≤ 2147483647) ∧ (1 ≤ a.toInt ∧ a.toInt ≤ 2147483647) := by
  simp [validLimits, and_assoc]

/-- Settles O41: by the checks of the submission in their order. -/
theorem hcMovesSubmitOrRefuse : Obligations.HcMovesSubmitOrRefuse := by
  intro i k hmem s
  have submits : exec i s = .next (s.submitMove k) := by
    simp only [List.mem_cons, Prod.mk.injEq, List.not_mem_nil, or_false] at hmem
    obtain ⟨rfl, rfl⟩ | ⟨rfl, rfl⟩ := hmem <;> rfl
  rw [submits]
  obtain ⟨hr, e⟩ | ⟨hr, hm, e⟩ | ⟨hr, hm, hv, e⟩ | ⟨hr, hm, hv, e⟩ := s.submitMove_cases k <;> rw [e]
  · rw [if_pos hr]
  · rw [if_neg hr, if_pos hm]
  · have invalid := mt validLimits_iff.mpr (Bool.eq_false_iff.mp hv)
    rw [if_neg hr, if_neg (not_not_intro hm), if_pos invalid]
  · have valid := validLimits_iff.mp hv
    rw [if_neg hr, if_neg (not_not_intro hm), if_neg (not_not_intro valid)]

/-- Settles O42: the two checks are the statement's, each with its own outcome. -/
theorem hcSetVelSubmitsOrRefuses : Obligations.HcSetVelSubmitsOrRefuses := by
  intro s
  rw [apply_ite Host.Outcome.next, apply_ite Host.Outcome.next]
  rfl

/-! ### When an access acts -/

/-- The access `a` stands next in the list, inside the tick or between ticks, with `rest` after it. -/
def State.AccessNext (a : Access) (rest : List Stimulus) (s : State) : Prop :=
  s.inputs = .hostInside a :: rest ∨ (s.phase = .idle ∧ s.inputs = .host a :: rest)

/-- An access that need not wait acts at once; between ticks every access does (20_memory.md R48,
R49). -/
theorem step_of_access (h : s.AccessNext a rest) (hw : (Stimulus.hostInside a).waits = false) :
    step s = access a { s with inputs := rest } := by
  obtain hi | ⟨hp, hi⟩ := h
  · exact step_of_acts hi (.inr hw)
  · exact step_of_acts hi (.inl hp)

/-! ### A reserved opcode (R179) -/

theorem access_ctrl_reserved {w : Word} (h : w.toNat % 256 ∉ [0x01, 0x02, 0x10, 0x11, 0x12])
    (s : State) : access (.write 0 w) s = .next { s with result := 2 } := by
  obtain ⟨-, -, -, -, -, reserved⟩ := doorbellDecodesLowByte w
  have rung : access (.write 0 w) s = doorbell w s := rfl
  rw [rung, doorbell, reserved h]
  rfl

/-- Settles O43: the word decodes to an error, as an access and as the step that takes it. -/
theorem reservedDoorbellWritesResultOnly : Obligations.ReservedDoorbellWritesResultOnly := by
  intro s w hw
  refine ⟨access_ctrl_reserved hw s, fun rest hp hi => ?_⟩
  exact (step_of_acts hi (.inl hp)).trans (access_ctrl_reserved hw _)

/-! ### Plain writes (R178) -/

/-- A write to a register other than `CTRL` is that register's plain write. -/
theorem access_write_number {r : HostReg} (hr : r ≠ .ctrl) (w : Word) (s : State) :
    access (.write r.number w) s = .next (s.plainWrite r w) := by
  rw [access, hostWrite, HostReg.ofNumber_number]
  cases r with
  | ctrl => exact absurd rfl hr
  | _ => rfl

/-- "Numbers above 18: ignored" (R178). -/
theorem access_write_above (k : Nat) (w : Word) (s : State) :
    access (.write (k + 19) w) s = .next s := by
  rw [access, hostWrite, HostReg.ofNumber_above]

/-- Settles O44: by the register of the number, each one's plain write; above 18 nothing is written. -/
theorem plainWritesStoreOrAreIgnored : Obligations.PlainWritesStoreOrAreIgnored := by
  intro s n w rest hn hi
  have turn : step s = access (.write n w) { s with inputs := rest } :=
    step_of_access hi (beq_eq_false_iff_ne.mpr hn)
  obtain ⟨r, rfl⟩ | ⟨k, rfl⟩ := HostReg.number_cases n
  · have hr : r ≠ .ctrl := fun h => hn (congrArg HostReg.number h)
    rw [turn, access_write_number hr]
    cases r with
    | ctrl => exact absurd rfl hr
    | _ => rfl
  · rw [turn, access_write_above]
    simp

/-! ### Reads (R177) -/

theorem State.hostValue_number (r : HostReg) (s : State) : s.hostValue r.number = s.hostReg r := by
  rw [State.hostValue, HostReg.ofNumber_number]

/-- "Any other number reads 0" (10_state.md R27). -/
theorem State.hostValue_above (k : Nat) (s : State) : s.hostValue (k + 19) = 0 := by
  rw [State.hostValue, HostReg.ofNumber_above]

/-- What a read returns does not depend on the stimuli still to come. -/
theorem State.hostValue_withInputs (n : Nat) (s : State) :
    { s with inputs := rest }.hostValue n = s.hostValue n := by
  obtain ⟨r, rfl⟩ | ⟨k, rfl⟩ := HostReg.number_cases n
  · rw [State.hostValue_number, State.hostValue_number]
    cases r <;> rfl
  · rw [State.hostValue_above, State.hostValue_above]

/-- A read puts out its value and has no other effect (R177). -/
theorem step_of_read {n : Nat} (h : s.AccessNext (.read n) rest) :
    step s =
      .next { s with inputs := rest, trace := .readBack n (s.hostValue n) :: s.trace } := by
  rw [step_of_access h rfl, ← State.hostValue_withInputs (rest := rest)]
  rfl

/-- `run_state` as the host reads it (30_encoding.md R69). -/
theorem RunState.code_word (r : RunState) :
    (r.code.setWidth 32 : Word) = if r = .halted then 0 else if r = .running then 1 else 2 := by
  cases r <;> rfl

/-- Settles O45: by the register of the number; above 18 the value is 0. -/
theorem hostReadsReturnRegistersWithoutEffect : Obligations.HostReadsReturnRegistersWithoutEffect := by
  intro s n rest hi
  refine ⟨s.hostValue n, step_of_read hi, ?_⟩
  obtain ⟨r, rfl⟩ | ⟨k, rfl⟩ := HostReg.number_cases n
  · rw [State.hostValue_number]
    cases r with
    | runState => exact RunState.code_word s.runState
    | _ => rfl
  · exact State.hostValue_above k s

end Sys2Proof.Machine
end

section
/-! PROOFS. The publish phase (44_host_channel.md R176): its stores commute, so whatever order the
schedule picks they leave what the listed order leaves (20_memory.md R48 item 4). -/

namespace Sys2Proof.Machine

variable {s : State} {l : List SnapReg}

/-! ### The stores in any order -/

/-- The stores of the registers of a list, in its order. -/
def State.storeSnaps (l : List SnapReg) (s : State) : State := l.foldl (fun t r => t.storeSnap r) s

/-- A store reads nothing that another store writes. -/
theorem State.storeSnap_comm (a b : SnapReg) (s : State) :
    (s.storeSnap a).storeSnap b = (s.storeSnap b).storeSnap a := by
  cases a <;> cases b <;> rfl

/-- Any register of the list may be stored first. -/
theorem State.storeSnaps_erase {k : SnapReg} (hk : k ∈ l) (s : State) :
    (s.storeSnap k).storeSnaps (l.erase k) = s.storeSnaps l :=
  (List.perm_cons_erase hk).symm.foldl_eq' (fun a _ b _ t => t.storeSnap_comm a b) s

/-! ### One step of the phase -/

/-- The point of the tick with the stores of `l` left to do (R176). -/
def Phase.storesLeft (l : List SnapReg) : Phase := if l = [] then .stopCheck else .publish l

theorem nextSnap_mem (pick : Option SnapReg) (r : SnapReg) (l : List SnapReg) :
    nextSnap pick r l ∈ r :: l := by
  unfold nextSnap
  split
  · split
    · assumption
    · exact List.mem_cons_self
  · exact List.mem_cons_self

/-- Whatever is picked, a step stores one of the registers left, and the others stay. -/
theorem coreStep_storesLeft (distinct : l.Nodup) (hl : l ≠ []) (pick : Option SnapReg) (s : State) :
    ∃ k ∈ l, coreStep pick (s.inPhase (.storesLeft l)) =
      .next ((s.storeSnap k).inPhase (.storesLeft (l.erase k))) := by
  cases l with
  | nil => exact absurd rfl hl
  | cons r rest =>
    refine ⟨nextSnap pick r rest, nextSnap_mem pick r rest, ?_⟩
    rw [coreStep_publish rfl, distinct.erase_eq_filter, State.storeSnap_inPhase]
    rfl

/-! ### The whole phase -/

/-- As many steps as there are registers left store them all, with any picks. -/
theorem coreSteps_storesLeft (distinct : l.Nodup) {picks : List (Option SnapReg)}
    (hlen : picks.length = l.length) (s : State) :
    picks.foldl (fun r p => andThen r (coreStep p)) (.next (s.inPhase (.storesLeft l))) =
      .next ((s.storeSnaps l).inPhase .stopCheck) := by
  induction picks generalizing l s with
  | nil =>
    obtain rfl := List.eq_nil_of_length_eq_zero hlen.symm
    rfl
  | cons p picks ih =>
    have hl : l ≠ [] := List.ne_nil_of_length_eq_add_one hlen.symm
    obtain ⟨k, hk, stored⟩ := coreStep_storesLeft distinct hl p s
    have hlen' : picks.length = (l.erase k).length := by
      rw [List.length_erase_of_mem hk, ← hlen, List.length_cons, Nat.add_sub_cancel]
    rw [List.foldl_cons, andThen, stored, ih (distinct.erase k) hlen', State.storeSnaps_erase hk]

theorem flagWord_decide (p : Prop) [Decidable p] : flagWord (decide p) = if p then 1 else 0 := by
  simp [flagWord]

/-- The eight stores as one update (R176). -/
theorem State.storeSnaps_all (s : State) :
    s.storeSnaps SnapReg.all =
      { s with
        snapBusOp := if s.busState = .operational then 1 else 0,
        snapDriveOp := if s.driveOp then 1 else 0,
        snapFault := if s.fault then 1 else 0,
        snapSw := BitVec.ofNat 32 (s.readIn .statusWord),
        snapCw := BitVec.ofNat 32 (s.readOut .controlWord),
        snapApos := BitVec.ofNat 32 (s.readIn .actualPosition),
        snapAvel := BitVec.ofNat 32 (s.readIn .actualVelocity),
        snapMstate := s.motionState.code.setWidth 32 } := by
  rw [← flagWord_decide (s.busState = .operational)]
  simp only [State.storeSnaps, SnapReg.all, List.foldl_cons, List.foldl_nil, State.storeSnap]
  rfl

/-- Settles O46: eight steps store the eight registers, and in any order that is the snapshot. -/
theorem publishStoresTheSnapshotInAnyOrder : Obligations.PublishStoresTheSnapshotInAnyOrder := by
  intro s picks hp hlen
  have start : s.inPhase (.storesLeft SnapReg.all) = s := congrArg (s.inPhase ·) hp.symm
  have stored := coreSteps_storesLeft (l := SnapReg.all) (by decide) hlen s
  rw [start, State.storeSnaps_all] at stored
  exact stored

end Sys2Proof.Machine
end

section
/-! PROOFS. What a whole tick puts out (60_exceptions.md): `Raises` adds up the events phase by phase
(42_cyclic_scheduler.md R142), and a bus error before Operational stops the loop in its own tick. -/

namespace Sys2Proof.Machine

variable {s t u : State} {inp : TickInput}

/-! ### A whole tick by its phases (42_cyclic_scheduler.md R142) -/

theorem andThen_eq_next {r : Host.Outcome State Fault Refusal}
    {f : State → Host.Outcome State Fault Refusal} (h : andThen r f = .next t) :
    ∃ u, r = .next u ∧ f u = .next t := by
  cases r with
  | next u => exact ⟨u, rfl, h⟩
  | fault | refused => cases h

/-- A whole tick is phases 0 and 1, the operation `bus_state` selects, the drive and profiler phases,
and phases 6 and 7. -/
theorem wholeTick_eq_next :
    wholeTick inp s = .next t ↔
      ∃ a b c, a = (s.beginTick inp).exchange.wkcCheck ∧ exec a.busState.instr a = .next b ∧
        drivePhase b = .next c ∧ t = c.endTick := by
  constructor
  · intro h
    obtain ⟨b, hb, h⟩ := andThen_eq_next h
    obtain ⟨c, hc, h⟩ := andThen_eq_next h
    injection h with h
    exact ⟨_, b, c, rfl, hb, hc, h.symm⟩
  · rintro ⟨a, b, c, rfl, hb, hc, rfl⟩
    rw [wholeTick, hb, andThen, hc]
    rfl

/-- Without an Operational bus the drive and the profiler do not run (40_drive_state_machine.md R80). -/
theorem drivePhase_of_not_operational (hb : s.busState ≠ .operational) : drivePhase s = .next s :=
  if_neg hb

/-- The eight stores in the listed order (44_host_channel.md R176). -/
theorem State.publishAll_eq_storeSnaps (s : State) : s.publishAll = s.storeSnaps SnapReg.all := rfl

/-! ### The events put out between two states (R190, R194) -/

/-- The code of an event put out; none for the other outputs (R190). -/
def Output.eventCode : Output → Option Nat
  | .event e => some e.code
  | .request _ | .sent _ | .readBack _ _ => none

/-- Every function that reads the codes of events off the outputs is `eventCode`. -/
theorem Output.filterMap_eventCode {f : Output → Option Nat} (hf : ∀ o, f o = o.eventCode)
    (outs : List Output) : outs.filterMap f = outs.filterMap Output.eventCode :=
  congrArg (List.filterMap · outs) (funext hf)

/-- What `t` has put out since `s`, oldest first, holds the events of these codes. -/
def Raises (s t : State) (codes : List Nat) : Prop :=
  ∃ outs : List Output, t.trace = outs.reverse ++ s.trace ∧ outs.filterMap Output.eventCode = codes

namespace Raises

theorem of_trace (h : t.trace = s.trace) : Raises s t [] := ⟨[], h, rfl⟩

theorem of_output (o : Output) (h : t.trace = o :: s.trace) : Raises s t o.eventCode.toList :=
  ⟨[o], h, by cases ho : o.eventCode <;> simp [ho]⟩

theorem trans {l m : List Nat} (h₁ : Raises s t l) (h₂ : Raises t u m) : Raises s u (l ++ m) := by
  obtain ⟨outs₁, ht, rfl⟩ := h₁
  obtain ⟨outs₂, hu, rfl⟩ := h₂
  exact ⟨outs₁ ++ outs₂, by rw [hu, ht, List.reverse_append, List.append_assoc],
    List.filterMap_append⟩

end Raises

/-! ### The events of each phase -/

/-- Phases 0 and 1 raise nothing, or SoftCommFault on an Operational bus (42 R144, R192). -/
theorem beginTick_exchange_raises (inp : TickInput) (s : State) :
    Raises s (s.beginTick inp).exchange.wkcCheck [] ∨
      (s.busState = .operational ∧ Raises s (s.beginTick inp).exchange.wkcCheck [2]) := by
  have sent : Raises s (s.beginTick inp).exchange [] :=
    .of_output (.sent _) (by rw [State.beginTick_frame]; rfl)
  obtain ⟨short, e⟩ | ⟨-, e⟩ := (s.beginTick inp).exchange.wkcCheck_cases <;> rw [e]
  · obtain ⟨operational, -⟩ := State.wkcShort_iff.mp short
    rw [State.beginTick_frame] at operational
    exact .inr ⟨operational, sent.trans (.of_output (.event (.softCommFault _)) rfl)⟩
  · exact .inl sent

/-- Phase 2 raises nothing, or BusError when it takes a bus not yet Operational into Error (43 R162 to
R165). -/
theorem exec_bus_raises (hu : exec s.busState.instr s = .next u) :
    Raises s u [] ∨ (s.busState ≠ .operational ∧ u.busState = .error ∧ Raises s u [3]) := by
  cases hb : s.busState <;> rw [hb] at hu
  case waitingForClockSync =>
    cases (bsWaitRequestsOrFails s).symm.trans hu
    split
    · exact .inr ⟨nofun, rfl, .of_output (.event .busError) rfl⟩
    · split
      · exact .inl (.of_output (.request .op) rfl)
      · exact .inl (.of_trace rfl)
  case requestingOperational =>
    cases (bsReqPollsOrFails s).symm.trans hu
    split
    · exact .inr ⟨nofun, rfl, .of_output (.event .busError) rfl⟩
    · split <;> exact .inl (.of_trace rfl)
  case operational => cases (bsOpAndBsErrChangeNothing s).1.symm.trans hu; exact .inl (.of_trace rfl)
  case error => cases (bsOpAndBsErrChangeNothing s).2.symm.trans hu; exact .inl (.of_trace rfl)

/-- A DS operation raises nothing, or DriveFault if it is DS.FAULT (40 R82 to R87). -/
theorem exec_drive_raises {d : DriveState} (hu : exec d.instr s = .next u) :
    Raises s u [] ∨ (d = .fault ∧ Raises s u [1]) := by
  cases hcw : d.controlWord with
  | some cw =>
    cases (exec_drive_notEnabled hcw s).symm.trans hu
    by_cases hf : d = .fault
    · exact .inr ⟨hf, .of_output (.event (.driveFault s.statusWord)) (if_pos hf)⟩
    · exact .inl (.of_trace (if_neg hf))
  | none =>
    obtain rfl := controlWord_eq_none_iff.mp hcw
    cases hd : s.driveOp with
    | true => cases (exec_dsOpen_enabled hd).symm.trans hu; exact .inl (.of_trace rfl)
    | false => cases (exec_dsOpen_rising hd).symm.trans hu; exact .inl (.of_trace rfl)

/-- The profiler phase puts nothing out (41_motion_profiler.md R117). -/
theorem profilerPhase_trace (ht : profilerPhase s = .next t) : t.trace = s.trace := by
  obtain ⟨u, hu, ht⟩ := andThen_eq_next ht
  injection ht with ht; subst ht
  rw [State.profilerOutputs_eq]
  split at hu
  · obtain ⟨v, hv, hu⟩ := andThen_eq_next hu
    rw [exec_motion_frame hu]
    split at hv <;> injection hv with hv <;> subst hv <;> rfl
  · injection hu with hu; subst hu
    rw [State.adoptVelocity_eq]; rfl

/-- Phases 3 and 4 raise nothing, or DriveFault (40 R80, R82). -/
theorem drivePhase_raises (ht : drivePhase s = .next t) : Raises s t [] ∨ Raises s t [1] := by
  by_cases hb : s.busState = .operational
  · rw [drivePhase, if_pos hb] at ht
    obtain ⟨u, hu, ht⟩ := andThen_eq_next ht
    have profiled : Raises u t [] := by
      split at ht
      · exact .of_trace (profilerPhase_trace ht)
      · cases ht; exact .of_trace rfl
    obtain quiet | ⟨-, fault⟩ := exec_drive_raises (d := decodeStatus s.statusWord) hu
    · exact .inl (quiet.trans profiled)
    · exact .inr (fault.trans profiled)
  · cases (drivePhase_of_not_operational hb).symm.trans ht
    exact .inl (.of_trace rfl)

/-- Phases 6 and 7 raise nothing: at most they request INIT (44 R176, 42 R146). -/
theorem State.endTick_raises (s : State) : Raises s s.endTick [] := by
  have published : Raises s s.publishAll [] :=
    .of_trace (by rw [State.publishAll_eq_storeSnaps, State.storeSnaps_all])
  refine published.trans (m := []) ?_
  obtain ⟨-, e⟩ | ⟨-, e⟩ := s.publishAll.stopCheck_cases <;> rw [State.endTick, e]
  · exact .of_output (.request .init) rfl
  · exact .of_trace rfl

/-! ### The events of a tick (R198) -/

/-- SoftCommFault needs an Operational bus before phase 2 and DriveFault one after it, so BusError, which
phase 2 raises on its way from neither to Error, stands alone. -/
theorem wholeTick_raises (ht : wholeTick inp s = .next t) :
    ∃ codes ∈ [[], [2], [3], [1], [2, 1]], Raises s t codes := by
  obtain ⟨a, b, c, rfl, hmon, hdrive, rfl⟩ := wholeTick_eq_next.mp ht
  obtain ⟨bus, -, -⟩ := s.beginTick_exchange inp
  have exchange := beginTick_exchange_raises inp s
  have ending := c.endTick_raises
  obtain monitor | ⟨notOperational, error, busError⟩ := exec_bus_raises hmon
  · obtain sent | ⟨-, short⟩ := exchange <;> obtain drive | fault := drivePhase_raises hdrive
    · exact ⟨[], by decide, ((sent.trans monitor).trans drive).trans ending⟩
    · exact ⟨[1], by decide, ((sent.trans monitor).trans fault).trans ending⟩
    · exact ⟨[2], by decide, ((short.trans monitor).trans drive).trans ending⟩
    · exact ⟨[2, 1], by decide, ((short.trans monitor).trans fault).trans ending⟩
  · cases (drivePhase_of_not_operational (by simp [error])).symm.trans hdrive
    obtain sent | ⟨operational, -⟩ := exchange
    · exact ⟨[3], by decide, (sent.trans busError).trans ending⟩
    · exact absurd (bus.trans operational) notOperational

/-- Settles O51: the events of the phases, in their order. -/
theorem eventsOfATickInPhaseOrder : Obligations.EventsOfATickInPhaseOrder := by
  intro s t inp ht
  obtain ⟨codes, listed, outs, htrace, rfl⟩ := wholeTick_raises ht
  refine ⟨outs, htrace, ?_⟩
  rw [Output.filterMap_eventCode (fun o => by cases o <;> rfl)]
  exact listed

/-! ### A bus error before Operational (R193, 43_bus_state_monitor.md R166 item 2) -/

/-- Phases 0 and 1 on a bus that is not Operational advance the wake time and exchange the records; the
working counter is not looked at (42 R143 to R145). -/
theorem State.beginTick_exchange_of_not_operational (inp : TickInput) (hb : s.busState ≠ .operational) :
    ∃ wake drawn, (s.beginTick inp).exchange.wkcCheck =
      { s with
        nextWake := wake, freeCount := drawn, tickIn := inp, phase := .exchange,
        pdoIn := inp.record.toMemory, trace := .sent (s.pdoOut.bytes outSize) :: s.trace } := by
  have notShort : (s.beginTick inp).wkcShort = false := by
    rw [State.beginTick_frame, Bool.eq_false_iff]
    exact fun short => hb (State.wkcShort_iff.mp short).1
  rw [State.exchange_of_not_short notShort, State.beginTick_frame]
  exact ⟨_, _, rfl⟩

/-- BS.WAIT and BS.REQ put an error before every other answer (43 R162, R163). -/
theorem exec_bus_failed
    (hb : s.busState = .waitingForClockSync ∨ s.busState = .requestingOperational)
    (herr : s.tickIn.busIsErr = true) :
    exec s.busState.instr s =
      .next { s with busState := .error, shutdown := true, trace := .event .busError :: s.trace } := by
  obtain hb | hb := hb <;> rw [hb]
  · exact (bsWaitRequestsOrFails s).trans (congrArg _ (if_pos herr))
  · exact (bsReqPollsOrFails s).trans (congrArg _ (if_pos herr))

/-- With `shutdown` set phases 6 and 7 publish, stop the loop and request INIT (42 R146). -/
theorem State.endTick_of_shutdown (h : s.shutdown = true) :
    s.endTick =
      { s.storeSnaps SnapReg.all with
        runState := .stopped, phase := .idle, trace := .request .init :: s.trace } := by
  have shut : (s.storeSnaps SnapReg.all).shutdown = true := by rw [State.storeSnaps_all, h]
  obtain ⟨-, e⟩ | ⟨running, -⟩ := (s.storeSnaps SnapReg.all).stopCheck_cases
  · rw [State.endTick, State.publishAll_eq_storeSnaps, e, State.storeSnaps_all]; rfl
  · exact absurd shut (Bool.eq_false_iff.mp running)

/-- Settles O36: phase 2 takes the error, phases 3 and 4 do not run, and phase 7 honours `shutdown`. -/
theorem busErrorStopsTheLoopInItsTick : Obligations.BusErrorStopsTheLoopInItsTick := by
  intro s inp hb herr
  have notOperational : s.busState ≠ .operational := by rcases hb with h | h <;> simp [h]
  obtain ⟨wake, drawn, start⟩ := State.beginTick_exchange_of_not_operational inp notOperational
  have failed := exec_bus_failed (s := (s.beginTick inp).exchange.wkcCheck) (by rw [start]; exact hb)
    (by rw [start]; exact herr)
  refine ⟨_, wholeTick_eq_next.mpr
    ⟨_, _, _, rfl, failed, drivePhase_of_not_operational BusState.noConfusion, rfl⟩, ?_⟩
  rw [State.endTick_of_shutdown rfl, State.storeSnaps_all, start]
  have status : BitVec.ofNat 32 (inp.record.toMemory.loadLE (InField.offset .statusWord)
      (InField.size .statusWord)) = inp.record.statusWord.setWidth 32 := by
    rw [InRecord.loadLE_toMemory, InRecord.value, BitVec.ofNat_toNat]
  exact ⟨rfl, rfl, rfl, rfl, rfl, rfl, rfl, rfl, status, rfl⟩

end Sys2Proof.Machine
end

section
/-! PROOFS. Reset and the hazard of the first enabled tick (70_reset_and_hazards.md R210, R221). On a
rising edge of `drive_op` the commanded position becomes the actual one, scaled; MP.IDLE leaves it; the
outputs floor it back to the same counts, so the drive is commanded to where it stands. -/

namespace Sys2Proof.Machine

variable {s : State}

/-! ### Reset (R210) -/

/-- Settles O11: between ticks the stimulus is taken off the list and acts at once. -/
theorem resetStepGivesResetState : Obligations.ResetStepGivesResetState :=
  fun _ _ hp hi => step_of_acts hi (.inl hp)

/-! ### The position taken on a rising edge (40_drive_state_machine.md R86, R89) -/

/-- `s` after DS.OPEN on a rising edge of `drive_op`: the origin is taken and the drive enabled. -/
def State.risen (s : State) : State := { s.takeOrigin with fault := false, driveOp := true }

theorem exec_dsOpen_risen (hd : s.driveOp = false) : exec .dsOpen s = .next s.risen :=
  exec_dsOpen_rising hd

/-- Flooring undoes the scaling: the commanded position in counts is the actual position, and within
32 bits already (41_motion_profiler.md R111). -/
theorem State.risen_counts (hl : s.params.legal = true) : s.risen.counts = s.actualPosition.toInt := by
  obtain ⟨-, -, scale, -⟩ := State.scale_range hl
  obtain ⟨lower, upper⟩ := toInt32_range s.actualPosition
  calc s.risen.counts = sat32 (s.takeOrigin.posRef.toInt / s.s2) := rfl
    _ = sat32 (s.actualPosition.toInt * s.s2 / s.s2) := by rw [State.takeOrigin_pos hl]
    _ = sat32 s.actualPosition.toInt := by rw [Int.mul_ediv_cancel _ (by omega)]
    _ = s.actualPosition.toInt := sat32_eq_self lower upper

/-- The field is 32 bits wide, so the register read from it holds its value (20_memory.md R42, R43). -/
theorem State.actualPosition_toNat (s : State) : s.actualPosition.toNat = s.readIn .actualPosition :=
  Nat.mod_eq_of_lt (Memory.loadLE_lt _ _ _)

/-- PositionOutput writes the actual position "bit for bit" after a rising edge in position mode
(41 R111). -/
theorem State.risen_outputs (hl : s.params.legal = true) (hm : s.mode = s.params.modePos) :
    s.risen.profilerOutputs.readOut .targetPosition = s.readIn .actualPosition ∧
      s.risen.profilerOutputs.readOut .targetVelocity = 0 := by
  obtain ⟨position, velocity⟩ := State.profilerOutputs_position (s := s.risen) hm
  refine ⟨?_, velocity⟩
  rw [position, State.risen_counts hl, BitVec.ofInt_toInt, State.actualPosition_toNat]

/-! ### The three steps of phases 3 and 4 (41_motion_profiler.md R117) -/

/-- Phase 3 when OperationEnabled is first observed: DS.OPEN, and the profiler follows (40 R80). -/
theorem coreStep_drive_rising (hp : s.phase = .drive) (hd : s.driveOp = false)
    (hsw : decodeStatus s.statusWord = .operationEnabled) (pick : Option SnapReg) :
    coreStep pick s = .next (s.risen.inPhase .profiler) := by
  rw [coreStep_drive hp, (decodeSw_eq_dsOpen _).mpr hsw, runOp_of_exec (exec_dsOpen_risen hd), hp]
  rfl

/-- Phase 4 with no move and nothing pending: MP.IDLE, and the outputs follow. -/
theorem coreStep_profiler_idle (hp : s.phase = .profiler) (hm : s.mode = s.params.modePos)
    (hc : s.cmdPending = false) (hidle : s.motionState = .idle) (pick : Option SnapReg) :
    coreStep pick s = .next (s.inPhase .outputs) := by
  rw [coreStep_profiler_motion hp hm hc, hidle, MotionState.instr,
    runOp_of_exec (mpIdleChangesNothing s), hp]
  rfl

/-- Settles O31: DS.OPEN takes the origin, MP.IDLE changes nothing, and the outputs write the actual
position back. -/
theorem firstEnabledTickCommandsTheActualPosition :
    Obligations.FirstEnabledTickCommandsTheActualPosition := by
  intro s hl hp hi hd hidle hm hc hsw
  have alone (p : Phase) : step (s.risen.inPhase p) = coreStep none (s.risen.inPhase p) :=
    step_of_no_stimulus hi
  have drive : step s = .next (s.risen.inPhase .profiler) :=
    (step_of_no_stimulus hi).trans (coreStep_drive_rising hp hd hsw none)
  have profiler : step (s.risen.inPhase .profiler) = .next (s.risen.inPhase .outputs) :=
    (alone .profiler).trans
      (coreStep_profiler_idle (s := s.risen.inPhase .profiler) rfl hm hc hidle none)
  have outputs : step (s.risen.inPhase .outputs) =
      .next (s.risen.profilerOutputs.inPhase (.publish SnapReg.all)) := by
    rw [alone, coreStep_outputs rfl, State.profilerOutputs_inPhase]
    rfl
  have run : Host.Core.run core 3 s =
      .next (s.risen.profilerOutputs.inPhase (.publish SnapReg.all)) :=
    (run_succ drive 2).trans ((run_succ profiler 1).trans (run_succ outputs 0))
  obtain ⟨position, velocity⟩ := State.risen_outputs hl hm
  refine ⟨_, run, ?_, ?_, position, velocity, State.profilerOutputs_controlWord s.risen⟩
  · rw [State.profilerOutputs_eq]; rfl
  · rw [State.profilerOutputs_eq]; exact hidle

end Sys2Proof.Machine
end
